-- ==== Sys2Proof/Word.lean ====
section
/-! DEFINITION. The two word widths of the hardware: the 8-bit byte of every register, datum and port number, and
the 16-bit word of PC, SP and every address (00_scope.md R8). -/

namespace Sys2Proof

/-- An 8-bit value: a general register, a memory cell, a port number (R8). -/
abbrev Byte := BitVec 8

/-- A 16-bit value: PC, SP, an address, a register pair (R8). -/
abbrev Word := BitVec 16

end Sys2Proof
end

