-- ==== Sys2Proof/Syntax.lean ====
section
/-! DEFINITION. The instructions: one constructor for each row of spec/opcode_table.json: first the rows of two and three
bytes, then those of one byte, each in the order of the opcode byte (30_encoding.md R90). (Lean's runtime numbers only
the first 244 constructors for data-carrying ones; the order has no other meaning.) A constructor carries the operand bytes that follow the opcode: d8 or a port number as a
Byte, d16 or a16 as a Word (R84). -/

namespace Sys2Proof

/-- The 256 rows of the opcode table: 244 defined instructions and the twelve undefined opcodes (R96, R98). -/
inductive Instr where
  /-- 0x01 LXI B,d16 (R136). -/
  | lxiB (d16 : Word)
  /-- 0x06 MVI B,d8 (R134). -/
  | mviB (d8 : Byte)
  /-- 0x0E MVI C,d8 (R134). -/
  | mviC (d8 : Byte)
  /-- 0x11 LXI D,d16 (R136). -/
  | lxiD (d16 : Word)
  /-- 0x16 MVI D,d8 (R134). -/
  | mviD (d8 : Byte)
  /-- 0x1E MVI E,d8 (R134). -/
  | mviE (d8 : Byte)
  /-- 0x21 LXI H,d16 (R136). -/
  | lxiH (d16 : Word)
  /-- 0x22 SHLD a16 (R139). -/
  | shld (a16 : Word)
  /-- 0x26 MVI H,d8 (R134). -/
  | mviH (d8 : Byte)
  /-- 0x2A LHLD a16 (R138). -/
  | lhld (a16 : Word)
  /-- 0x2E MVI L,d8 (R134). -/
  | mviL (d8 : Byte)
  /-- 0x31 LXI SP,d16 (R136). -/
  | lxiSp (d16 : Word)
  /-- 0x32 STA a16 (R140). -/
  | sta (a16 : Word)
  /-- 0x36 MVI M,d8 (R135). -/
  | mviM (d8 : Byte)
  /-- 0x3A LDA a16 (R137). -/
  | lda (a16 : Word)
  /-- 0x3E MVI A,d8 (R134). -/
  | mviA (d8 : Byte)
  /-- 0xC2 JNZ a16 (R221). -/
  | jnz (a16 : Word)
  /-- 0xC3 JMP a16 (R219). -/
  | jmp (a16 : Word)
  /-- 0xC4 CNZ a16 (R231). -/
  | cnz (a16 : Word)
  /-- 0xC6 ADI d8 (R152). -/
  | adi (d8 : Byte)
  /-- 0xCA JZ a16 (R222). -/
  | jz (a16 : Word)
  /-- 0xCC CZ a16 (R232). -/
  | cz (a16 : Word)
  /-- 0xCD CALL a16 (R229). -/
  | call (a16 : Word)
  /-- 0xCE ACI d8 (R154). -/
  | aci (d8 : Byte)
  /-- 0xD2 JNC a16 (R223). -/
  | jnc (a16 : Word)
  /-- 0xD3 OUT port (R267). -/
  | outPort (port : Byte)
  /-- 0xD4 CNC a16 (R233). -/
  | cnc (a16 : Word)
  /-- 0xD6 SUI d8 (R156). -/
  | sui (d8 : Byte)
  /-- 0xDA JC a16 (R224). -/
  | jc (a16 : Word)
  /-- 0xDB IN port (R266). -/
  | inPort (port : Byte)
  /-- 0xDC CC a16 (R234). -/
  | cc (a16 : Word)
  /-- 0xDE SBI d8 (R158). -/
  | sbi (d8 : Byte)
  /-- 0xE2 JPO a16 (R225). -/
  | jpo (a16 : Word)
  /-- 0xE4 CPO a16 (R235). -/
  | cpo (a16 : Word)
  /-- 0xE6 ANI d8 (R182). -/
  | ani (d8 : Byte)
  /-- 0xEA JPE a16 (R226). -/
  | jpe (a16 : Word)
  /-- 0xEC CPE a16 (R236). -/
  | cpe (a16 : Word)
  /-- 0xEE XRI d8 (R184). -/
  | xri (d8 : Byte)
  /-- 0xF2 JP a16 (R227). -/
  | jp (a16 : Word)
  /-- 0xF4 CP a16 (R237). -/
  | cp (a16 : Word)
  /-- 0xF6 ORI d8 (R186). -/
  | ori (d8 : Byte)
  /-- 0xFA JM a16 (R228). -/
  | jm (a16 : Word)
  /-- 0xFC CM a16 (R238). -/
  | cm (a16 : Word)
  /-- 0xFE CPI d8 (R160). -/
  | cpi (d8 : Byte)
  /-- 0x00 NOP (R265). -/
  | nop
  /-- 0x02 STAX B (R142). -/
  | staxB
  /-- 0x03 INX B (R165). -/
  | inxB
  /-- 0x04 INR B (R161). -/
  | inrB
  /-- 0x05 DCR B (R163). -/
  | dcrB
  /-- 0x07 RLC (R187). -/
  | rlc
  /-- 0x08 undefined opcode (R271). -/
  | undefined08
  /-- 0x09 DAD B (R167). -/
  | dadB
  /-- 0x0A LDAX B (R141). -/
  | ldaxB
  /-- 0x0B DCX B (R166). -/
  | dcxB
  /-- 0x0C INR C (R161). -/
  | inrC
  /-- 0x0D DCR C (R163). -/
  | dcrC
  /-- 0x0F RRC (R188). -/
  | rrc
  /-- 0x10 undefined opcode (R271). -/
  | undefined10
  /-- 0x12 STAX D (R142). -/
  | staxD
  /-- 0x13 INX D (R165). -/
  | inxD
  /-- 0x14 INR D (R161). -/
  | inrD
  /-- 0x15 DCR D (R163). -/
  | dcrD
  /-- 0x17 RAL (R189). -/
  | ral
  /-- 0x18 undefined opcode (R271). -/
  | undefined18
  /-- 0x19 DAD D (R167). -/
  | dadD
  /-- 0x1A LDAX D (R141). -/
  | ldaxD
  /-- 0x1B DCX D (R166). -/
  | dcxD
  /-- 0x1C INR E (R161). -/
  | inrE
  /-- 0x1D DCR E (R163). -/
  | dcrE
  /-- 0x1F RAR (R190). -/
  | rar
  /-- 0x20 undefined opcode (R271). -/
  | undefined20
  /-- 0x23 INX H (R165). -/
  | inxH
  /-- 0x24 INR H (R161). -/
  | inrH
  /-- 0x25 DCR H (R163). -/
  | dcrH
  /-- 0x27 DAA (R168). -/
  | daa
  /-- 0x28 undefined opcode (R271). -/
  | undefined28
  /-- 0x29 DAD H (R167). -/
  | dadH
  /-- 0x2B DCX H (R166). -/
  | dcxH
  /-- 0x2C INR L (R161). -/
  | inrL
  /-- 0x2D DCR L (R163). -/
  | dcrL
  /-- 0x2F CMA (R191). -/
  | cma
  /-- 0x30 undefined opcode (R271). -/
  | undefined30
  /-- 0x33 INX SP (R165). -/
  | inxSp
  /-- 0x34 INR M (R162). -/
  | inrM
  /-- 0x35 DCR M (R164). -/
  | dcrM
  /-- 0x37 STC (R193). -/
  | stc
  /-- 0x38 undefined opcode (R271). -/
  | undefined38
  /-- 0x39 DAD SP (R167). -/
  | dadSp
  /-- 0x3B DCX SP (R166). -/
  | dcxSp
  /-- 0x3C INR A (R161). -/
  | inrA
  /-- 0x3D DCR A (R163). -/
  | dcrA
  /-- 0x3F CMC (R192). -/
  | cmc
  /-- 0x40 MOV B,B (R131). -/
  | movBB
  /-- 0x41 MOV B,C (R131). -/
  | movBC
  /-- 0x42 MOV B,D (R131). -/
  | movBD
  /-- 0x43 MOV B,E (R131). -/
  | movBE
  /-- 0x44 MOV B,H (R131). -/
  | movBH
  /-- 0x45 MOV B,L (R131). -/
  | movBL
  /-- 0x46 MOV B,M (R132). -/
  | movBM
  /-- 0x47 MOV B,A (R131). -/
  | movBA
  /-- 0x48 MOV C,B (R131). -/
  | movCB
  /-- 0x49 MOV C,C (R131). -/
  | movCC
  /-- 0x4A MOV C,D (R131). -/
  | movCD
  /-- 0x4B MOV C,E (R131). -/
  | movCE
  /-- 0x4C MOV C,H (R131). -/
  | movCH
  /-- 0x4D MOV C,L (R131). -/
  | movCL
  /-- 0x4E MOV C,M (R132). -/
  | movCM
  /-- 0x4F MOV C,A (R131). -/
  | movCA
  /-- 0x50 MOV D,B (R131). -/
  | movDB
  /-- 0x51 MOV D,C (R131). -/
  | movDC
  /-- 0x52 MOV D,D (R131). -/
  | movDD
  /-- 0x53 MOV D,E (R131). -/
  | movDE
  /-- 0x54 MOV D,H (R131). -/
  | movDH
  /-- 0x55 MOV D,L (R131). -/
  | movDL
  /-- 0x56 MOV D,M (R132). -/
  | movDM
  /-- 0x57 MOV D,A (R131). -/
  | movDA
  /-- 0x58 MOV E,B (R131). -/
  | movEB
  /-- 0x59 MOV E,C (R131). -/
  | movEC
  /-- 0x5A MOV E,D (R131). -/
  | movED
  /-- 0x5B MOV E,E (R131). -/
  | movEE
  /-- 0x5C MOV E,H (R131). -/
  | movEH
  /-- 0x5D MOV E,L (R131). -/
  | movEL
  /-- 0x5E MOV E,M (R132). -/
  | movEM
  /-- 0x5F MOV E,A (R131). -/
  | movEA
  /-- 0x60 MOV H,B (R131). -/
  | movHB
  /-- 0x61 MOV H,C (R131). -/
  | movHC
  /-- 0x62 MOV H,D (R131). -/
  | movHD
  /-- 0x63 MOV H,E (R131). -/
  | movHE
  /-- 0x64 MOV H,H (R131). -/
  | movHH
  /-- 0x65 MOV H,L (R131). -/
  | movHL
  /-- 0x66 MOV H,M (R132). -/
  | movHM
  /-- 0x67 MOV H,A (R131). -/
  | movHA
  /-- 0x68 MOV L,B (R131). -/
  | movLB
  /-- 0x69 MOV L,C (R131). -/
  | movLC
  /-- 0x6A MOV L,D (R131). -/
  | movLD
  /-- 0x6B MOV L,E (R131). -/
  | movLE
  /-- 0x6C MOV L,H (R131). -/
  | movLH
  /-- 0x6D MOV L,L (R131). -/
  | movLL
  /-- 0x6E MOV L,M (R132). -/
  | movLM
  /-- 0x6F MOV L,A (R131). -/
  | movLA
  /-- 0x70 MOV M,B (R133). -/
  | movMB
  /-- 0x71 MOV M,C (R133). -/
  | movMC
  /-- 0x72 MOV M,D (R133). -/
  | movMD
  /-- 0x73 MOV M,E (R133). -/
  | movME
  /-- 0x74 MOV M,H (R133). -/
  | movMH
  /-- 0x75 MOV M,L (R133). -/
  | movML
  /-- 0x76 HLT (R264). -/
  | hlt
  /-- 0x77 MOV M,A (R133). -/
  | movMA
  /-- 0x78 MOV A,B (R131). -/
  | movAB
  /-- 0x79 MOV A,C (R131). -/
  | movAC
  /-- 0x7A MOV A,D (R131). -/
  | movAD
  /-- 0x7B MOV A,E (R131). -/
  | movAE
  /-- 0x7C MOV A,H (R131). -/
  | movAH
  /-- 0x7D MOV A,L (R131). -/
  | movAL
  /-- 0x7E MOV A,M (R132). -/
  | movAM
  /-- 0x7F MOV A,A (R131). -/
  | movAA
  /-- 0x80 ADD B (R151). -/
  | addB
  /-- 0x81 ADD C (R151). -/
  | addC
  /-- 0x82 ADD D (R151). -/
  | addD
  /-- 0x83 ADD E (R151). -/
  | addE
  /-- 0x84 ADD H (R151). -/
  | addH
  /-- 0x85 ADD L (R151). -/
  | addL
  /-- 0x86 ADD M (R151). -/
  | addM
  /-- 0x87 ADD A (R151). -/
  | addA
  /-- 0x88 ADC B (R153). -/
  | adcB
  /-- 0x89 ADC C (R153). -/
  | adcC
  /-- 0x8A ADC D (R153). -/
  | adcD
  /-- 0x8B ADC E (R153). -/
  | adcE
  /-- 0x8C ADC H (R153). -/
  | adcH
  /-- 0x8D ADC L (R153). -/
  | adcL
  /-- 0x8E ADC M (R153). -/
  | adcM
  /-- 0x8F ADC A (R153). -/
  | adcA
  /-- 0x90 SUB B (R155). -/
  | subB
  /-- 0x91 SUB C (R155). -/
  | subC
  /-- 0x92 SUB D (R155). -/
  | subD
  /-- 0x93 SUB E (R155). -/
  | subE
  /-- 0x94 SUB H (R155). -/
  | subH
  /-- 0x95 SUB L (R155). -/
  | subL
  /-- 0x96 SUB M (R155). -/
  | subM
  /-- 0x97 SUB A (R155). -/
  | subA
  /-- 0x98 SBB B (R157). -/
  | sbbB
  /-- 0x99 SBB C (R157). -/
  | sbbC
  /-- 0x9A SBB D (R157). -/
  | sbbD
  /-- 0x9B SBB E (R157). -/
  | sbbE
  /-- 0x9C SBB H (R157). -/
  | sbbH
  /-- 0x9D SBB L (R157). -/
  | sbbL
  /-- 0x9E SBB M (R157). -/
  | sbbM
  /-- 0x9F SBB A (R157). -/
  | sbbA
  /-- 0xA0 ANA B (R181). -/
  | anaB
  /-- 0xA1 ANA C (R181). -/
  | anaC
  /-- 0xA2 ANA D (R181). -/
  | anaD
  /-- 0xA3 ANA E (R181). -/
  | anaE
  /-- 0xA4 ANA H (R181). -/
  | anaH
  /-- 0xA5 ANA L (R181). -/
  | anaL
  /-- 0xA6 ANA M (R181). -/
  | anaM
  /-- 0xA7 ANA A (R181). -/
  | anaA
  /-- 0xA8 XRA B (R183). -/
  | xraB
  /-- 0xA9 XRA C (R183). -/
  | xraC
  /-- 0xAA XRA D (R183). -/
  | xraD
  /-- 0xAB XRA E (R183). -/
  | xraE
  /-- 0xAC XRA H (R183). -/
  | xraH
  /-- 0xAD XRA L (R183). -/
  | xraL
  /-- 0xAE XRA M (R183). -/
  | xraM
  /-- 0xAF XRA A (R183). -/
  | xraA
  /-- 0xB0 ORA B (R185). -/
  | oraB
  /-- 0xB1 ORA C (R185). -/
  | oraC
  /-- 0xB2 ORA D (R185). -/
  | oraD
  /-- 0xB3 ORA E (R185). -/
  | oraE
  /-- 0xB4 ORA H (R185). -/
  | oraH
  /-- 0xB5 ORA L (R185). -/
  | oraL
  /-- 0xB6 ORA M (R185). -/
  | oraM
  /-- 0xB7 ORA A (R185). -/
  | oraA
  /-- 0xB8 CMP B (R159). -/
  | cmpB
  /-- 0xB9 CMP C (R159). -/
  | cmpC
  /-- 0xBA CMP D (R159). -/
  | cmpD
  /-- 0xBB CMP E (R159). -/
  | cmpE
  /-- 0xBC CMP H (R159). -/
  | cmpH
  /-- 0xBD CMP L (R159). -/
  | cmpL
  /-- 0xBE CMP M (R159). -/
  | cmpM
  /-- 0xBF CMP A (R159). -/
  | cmpA
  /-- 0xC0 RNZ (R241). -/
  | rnz
  /-- 0xC1 POP B (R203). -/
  | popB
  /-- 0xC5 PUSH B (R201). -/
  | pushB
  /-- 0xC7 RST 0 (R252). -/
  | rst0
  /-- 0xC8 RZ (R242). -/
  | rz
  /-- 0xC9 RET (R239). -/
  | ret
  /-- 0xCB undefined opcode (R271). -/
  | undefinedCB
  /-- 0xCF RST 1 (R252). -/
  | rst1
  /-- 0xD0 RNC (R243). -/
  | rnc
  /-- 0xD1 POP D (R203). -/
  | popD
  /-- 0xD5 PUSH D (R201). -/
  | pushD
  /-- 0xD7 RST 2 (R252). -/
  | rst2
  /-- 0xD8 RC (R244). -/
  | rc
  /-- 0xD9 undefined opcode (R271). -/
  | undefinedD9
  /-- 0xDD undefined opcode (R271). -/
  | undefinedDD
  /-- 0xDF RST 3 (R252). -/
  | rst3
  /-- 0xE0 RPO (R245). -/
  | rpo
  /-- 0xE1 POP H (R203). -/
  | popH
  /-- 0xE3 XTHL (R205). -/
  | xthl
  /-- 0xE5 PUSH H (R201). -/
  | pushH
  /-- 0xE7 RST 4 (R252). -/
  | rst4
  /-- 0xE8 RPE (R246). -/
  | rpe
  /-- 0xE9 PCHL (R253). -/
  | pchl
  /-- 0xEB XCHG (R143). -/
  | xchg
  /-- 0xED undefined opcode (R271). -/
  | undefinedED
  /-- 0xEF RST 5 (R252). -/
  | rst5
  /-- 0xF0 RP (R247). -/
  | rp
  /-- 0xF1 POP PSW (R204). -/
  | popPsw
  /-- 0xF3 DI (R263). -/
  | di
  /-- 0xF5 PUSH PSW (R202). -/
  | pushPsw
  /-- 0xF7 RST 6 (R252). -/
  | rst6
  /-- 0xF8 RM (R248). -/
  | rm
  /-- 0xF9 SPHL (R206). -/
  | sphl
  /-- 0xFB EI (R262). -/
  | ei
  /-- 0xFD undefined opcode (R271). -/
  | undefinedFD
  /-- 0xFF RST 7 (R252). -/
  | rst7
  deriving DecidableEq, Repr

end Sys2Proof
end

