-- ==== Sys2Proof/Machine/Codes.lean ====
section
/-! DEFINITION. The operand names of the instruction fields and their codes in the opcode byte (30_encoding.md R82). -/

namespace Sys2Proof.Machine

/-- The seven 8-bit registers (10_state.md R21). -/
inductive Reg where
  | b | c | d | e | h | l | a
  deriving DecidableEq, Repr

/-- The 8-bit operand of the fields `ddd` and `sss`: a register, or M, the memory byte at HL (R22). -/
inductive Operand where
  | reg (r : Reg)
  | m
  deriving DecidableEq, Repr

/-- The pair field of LXI, INX, DCX and DAD (R24). -/
inductive Pair where
  | bc | de | hl | sp
  deriving DecidableEq, Repr

/-- The pair field of PUSH and POP: code 11b is the PSW (R25). -/
inductive StackPair where
  | bc | de | hl | psw
  deriving DecidableEq, Repr

/-- The pair field of LDAX and STAX: BC or DE only (R24, R141, R142). -/
inductive PointerPair where
  | bc | de
  deriving DecidableEq, Repr

/-- The condition names of Jcc, Ccc and Rcc (R85). -/
inductive Cond where
  | nz | z | nc | c | po | pe | p | m
  deriving DecidableEq, Repr

/-- The ALU operation field `ooo` (R82). -/
inductive AluOp where
  | add | adc | sub | sbb | ana | xra | ora | cmp
  deriving DecidableEq, Repr

/-- The names of the five flags (R29). -/
inductive FlagName where
  | z | s | p | cy | ac
  deriving DecidableEq, Repr

/-- The 3-bit register code (R22). -/
def regCode : Reg → BitVec 3
  | .b => 0b000#3
  | .c => 0b001#3
  | .d => 0b010#3
  | .e => 0b011#3
  | .h => 0b100#3
  | .l => 0b101#3
  | .a => 0b111#3

/-- The 3-bit operand code; 110b is M (R22). -/
def operandCode : Operand → BitVec 3
  | .reg r => regCode r
  | .m => 0b110#3

/-- The 2-bit pair code of LXI, INX, DCX, DAD (R24). -/
def pairCode : Pair → BitVec 2
  | .bc => 0b00#2
  | .de => 0b01#2
  | .hl => 0b10#2
  | .sp => 0b11#2

/-- The 2-bit pair code of PUSH and POP (R25). -/
def stackPairCode : StackPair → BitVec 2
  | .bc => 0b00#2
  | .de => 0b01#2
  | .hl => 0b10#2
  | .psw => 0b11#2

/-- The 2-bit pair code of LDAX and STAX (R24). -/
def pointerPairCode : PointerPair → BitVec 2
  | .bc => 0b00#2
  | .de => 0b01#2

/-- The 3-bit condition code (R85). -/
def condCode : Cond → BitVec 3
  | .nz => 0b000#3
  | .z => 0b001#3
  | .nc => 0b010#3
  | .c => 0b011#3
  | .po => 0b100#3
  | .pe => 0b101#3
  | .p => 0b110#3
  | .m => 0b111#3

/-- The 3-bit ALU operation code (R82). -/
def aluOpCode : AluOp → BitVec 3
  | .add => 0b000#3
  | .adc => 0b001#3
  | .sub => 0b010#3
  | .sbb => 0b011#3
  | .ana => 0b100#3
  | .xra => 0b101#3
  | .ora => 0b110#3
  | .cmp => 0b111#3

end Sys2Proof.Machine
end

