-- ==== Sys2Proof/Config.lean ====
section
/-! DEFINITION. What is fixed for the machine, and its one free value. -/

namespace Sys2Proof

/-- MEM_SIZE: 65,536 bytes, not a parameter (00_scope.md R8, R10; D13). -/
def Config.memSize : Nat := 65536

/-- What a memory cell that nothing has written reads as: the reset value 0x00 of every cell (10_state.md R39). -/
def Config.memReset : Byte := 0#8

/-- FREE VALUE (DESIGN CHOICE, log entry 2). The byte the I/O environment answers to the n-th executed IN, for a
port, once the answers that State lists are used up: 46_io_system.md R260 and U8 let it be any value. No body: nothing
can be proved of it. -/
opaque Config.freeInput : Nat → Byte → Byte

end Sys2Proof
end

