-- ==== Sys2Proof/Machine/State.lean ====
section
/-! DEFINITION. The state of the 8080 CPU core as plain data (10_state.md R20 to R39), the fault records, the refusals,
and the state after reset. -/

namespace Sys2Proof.Machine

/-- MEM (R33) as the list of the cells that do not hold `Config.memReset`: (address, byte) pairs with strictly rising
addresses (`Memory.wf` in Ops.lean is that form). -/
abbrev Memory := List Host.Cell

/-- The five condition flags (R29): Zero, Sign, Parity, Carry, Auxiliary Carry. -/
structure Flags where
  z : Bool
  s : Bool
  p : Bool
  cy : Bool
  ac : Bool
  deriving DecidableEq, Repr

/-- A fault record, what the FAULT latch holds (R37; 60_exceptions.md R270, R274). A fault of this hardware is a state,
not the end of the model's run: the step that raises it answers a next state with the record in FAULT, and every later
step answers that state again (log entry 1). So no step and no meaning answers `Host.Outcome.fault`. -/
inductive Fault where
  /-- A memory access at an address ≥ MEM_SIZE; records the address. Raised by nothing: a 16-bit address cannot reach it
  (R272). Safe. -/
  | outOfBoundsAccess (address : Nat)
  /-- The opcode byte fetched is one of the twelve undefined values; records the byte and its address. Raised by the
  meanings of the twelve undefined opcodes, and by nothing else (R271). Safe: the spec raises it too. -/
  | unimplementedOpcode (opcode : Byte) (pc : Word)
  /-- IN or OUT with no handler; records the port. Raised by nothing: this hardware stubs the missing handler (R273).
  Safe. -/
  | ioHandlerMissing (port : Byte)
  deriving DecidableEq, Repr

/-- What the model gives no meaning. -/
inductive Refusal where
  /-- An instruction without a meaning yet, by its mnemonic. Raised by no arm of `exec`: every row of the table has its
  meaning. Safe. -/
  | notModelled (mnemonic : String)
  /-- The host loads an image with LOAD_ADDR + length > 65,536. Raised by `loadProgram` only; the spec says that a model
  refuses it (20_memory.md R74; U10; D18). Safe. -/
  | imageDoesNotFit
  /-- The host loads memory, seeds PC or SP or attaches I/O handlers after the first step. Raised by `hostAct` only; the
  spec says that a model refuses a host write then (10_state.md R46; U9; D18; log entry 9). Safe. -/
  | hostWriteAfterStart
  deriving DecidableEq, Repr

/-- The answers of an input handler at one moment, the source's `inHandler: (port: u8) -> u8` (R43, R260) as plain data:
the entry at index p is the answer for port p. -/
abbrev PortAnswers := Vector Byte 256

/-- The environment's input side, IO_IN (R43; 46_io_system.md R260; 70_reset_and_hazards.md R294), as plain data
(DESIGN CHOICE, log entry 2). -/
inductive InHandler where
  /-- No handler is attached: IN receives 0x00 from every port (R260). -/
  | unset
  /-- A handler whose answer depends on the port alone, the same at every moment. -/
  | fixed (answers : PortAnswers)
  /-- A handler whose answer depends on the port and on the moment: one function of the port for each coming IN, in the
  order of the INs. After the last one the answers are free values (`Config.freeInput`). -/
  | varying (moments : List PortAnswers)
  deriving DecidableEq, Repr

/-- The three results of a step (00_scope.md R14; 10_state.md R45). -/
inductive StepResult where
  | continued
  | halted
  | failed (record : Fault)
  deriving DecidableEq, Repr

/-- The complete architectural state (10_state.md R20), and four fields of the model's own for the I/O environment. -/
structure State where
  /-- The accumulator (R21). -/
  a : Byte
  b : Byte
  c : Byte
  d : Byte
  e : Byte
  h : Byte
  l : Byte
  /-- The stack pointer (R28). -/
  sp : Word
  /-- The program counter (R26, R27). -/
  pc : Word
  /-- Z, S, P, CY, AC (R29). -/
  flags : Flags
  /-- The interrupt-enable flag (R32). -/
  inte : Bool
  /-- MEM (R33). -/
  mem : Memory
  /-- HALTED (R36). -/
  halted : Bool
  /-- FAULT: none or one record (R37). -/
  fault : Option Fault
  /-- The model's own: IO_IN (R38, R260; log entry 2). -/
  inHandler : InHandler
  /-- The model's own: how many INs have been answered; indexes the free values (log entry 2). -/
  inReads : Nat
  /-- The model's own: the ports IN has presented, oldest first (R43; log entry 2). -/
  inPorts : List Byte
  /-- The model's own: the (port, value) pairs OUT has presented, oldest first (R261; log entry 4). -/
  outputs : List (Byte × Byte)
  deriving DecidableEq, Repr

/-- The answer of a meaning or of a step. -/
abbrev Answer := Host.Outcome State Fault Refusal

/-- All flags 0, the reset value (R39). -/
def Flags.reset : Flags := { z := false, s := false, p := false, cy := false, ac := false }

/-- The state after RESET: every piece of state zero, memory included (R39; 70_reset_and_hazards.md R290). The four
fields of the model's own start with no handler, no IN answered and no output (log entries 3 and 4). -/
def State.reset : State :=
  { a := 0x00#8, b := 0x00#8, c := 0x00#8, d := 0x00#8, e := 0x00#8, h := 0x00#8, l := 0x00#8
    sp := 0x0000#16, pc := 0x0000#16
    flags := Flags.reset
    inte := false
    mem := []
    halted := false
    fault := none
    inHandler := .unset
    inReads := 0
    inPorts := []
    outputs := [] }

end Sys2Proof.Machine
end

