-- ==== Sys2Proof/Machine/Flags.lean ====
section
/-! DEFINITION. The flag engine: the flag functions and flag groups of 40_alu_flags.md, the 8-bit adder and subtracter,
the decimal adjustment, the packed flags byte and the branch conditions. -/

namespace Sys2Proof.Machine

/-- `popcount` of a byte (00_scope.md R11). -/
def popcount (v : Byte) : Nat := (List.range 8).countP (fun i => v.getLsbD i)

/-- R110: the low 8 bits of the result are all zero. -/
def zeroFlag (v : Byte) : Bool := v == 0x00#8

/-- R111: bit 7 of the result. -/
def signFlag (v : Byte) : Bool := v.getLsbD 7

/-- R112: 1 when the number of set bits in the low 8 bits is even. -/
def parityFlag (v : Byte) : Bool := popcount v % 2 == 0

/-- R113: bit 8 of the integer sum before truncation. -/
def carryAdd (x : Nat) : Bool := x.testBit 8

/-- R114: the integer difference before truncation is negative. -/
def borrow (x : Int) : Bool := decide (x < 0)

/-- R115: a carry out of bit 3 of a + b + c. -/
def auxAdd (a b : Byte) (c : Bool) : Bool :=
  decide (a.toNat % 16 + b.toNat % 16 + c.toNat > 0xF)

/-- R116: a carry out of bit 3 of a + ~b + (1 - c). -/
def auxSub (a b : Byte) (c : Bool) : Bool :=
  decide (a.toNat % 16 + (~~~b).toNat % 16 + (1 - c.toNat) > 0xF)

/-- The integer sum before truncation (R117). -/
def sumOf (a b : Byte) (c : Bool) : Nat := a.toNat + b.toNat + c.toNat

/-- The integer difference before truncation (R117). -/
def differenceOf (a b : Byte) (c : Bool) : Int := (a.toNat : Int) - b.toNat - c.toNat

/-- SetZSP: the INCREMENT group, Z, S and P only (R117). -/
def setZSP (v : Byte) (f : Flags) : Flags :=
  { f with z := zeroFlag v, s := signFlag v, p := parityFlag v }

/-- SetLogic: CY and AC forced to 0 (R117). -/
def setLogic (v : Byte) : Flags :=
  { z := zeroFlag v, s := signFlag v, p := parityFlag v, cy := false, ac := false }

/-- SetArithAdd: the ARITHMETIC group of an addition (R117). -/
def setArithAdd (a b : Byte) (c : Bool) : Flags :=
  let v := BitVec.ofNat 8 (sumOf a b c)
  { z := zeroFlag v, s := signFlag v, p := parityFlag v
    cy := carryAdd (sumOf a b c), ac := auxAdd a b c }

/-- SetArithSub: the ARITHMETIC group of a subtraction (R117). -/
def setArithSub (a b : Byte) (c : Bool) : Flags :=
  let v := BitVec.ofInt 8 (differenceOf a b c)
  { z := zeroFlag v, s := signFlag v, p := parityFlag v
    cy := borrow (differenceOf a b c), ac := auxSub a b c }

/-- The result of Add8: the sum modulo 256 (R118). -/
def add8 (a b : Byte) (c : Bool) : Byte := BitVec.ofNat 8 (sumOf a b c)

/-- The result of Sub8: the difference modulo 256 (R119). -/
def sub8 (a b : Byte) (c : Bool) : Byte := BitVec.ofInt 8 (differenceOf a b c)

/-- The condition under which DAA corrects the low digit (42_arithmetic.md R168). -/
def daaLow (a : Byte) (f : Flags) : Bool := decide (a.toNat % 16 > 9) || f.ac

/-- The condition under which DAA corrects the high digit and sets CY (R168). -/
def daaHigh (a : Byte) (f : Flags) : Bool :=
  decide (a.toNat / 16 > 9) || f.cy || (decide (a.toNat / 16 ≥ 9) && decide (a.toNat % 16 > 9))

/-- DAA's correction `c` (R168). -/
def daaCorrection (a : Byte) (f : Flags) : Nat :=
  (if daaLow a f then 0x06 else 0x00) + (if daaHigh a f then 0x60 else 0x00)

/-- The accumulator after DAA (R168). -/
def daaResult (a : Byte) (f : Flags) : Byte := BitVec.ofNat 8 (a.toNat + daaCorrection a f)

/-- The flags after DAA: CY is never cleared, AC is the carry out of bit 3 of the adjustment, Z, S and P come from the
result (R168). -/
def daaFlags (a : Byte) (f : Flags) : Flags :=
  setZSP (daaResult a f)
    { f with
      cy := f.cy || daaHigh a f
      ac := decide (a.toNat % 16 + daaCorrection a f % 16 > 0xF) }

/-- FLAGS, the packed byte, bit 7 down to bit 0: S, Z, 0, AC, 0, P, 1, CY (10_state.md R31). -/
def flagsByte (f : Flags) : Byte :=
  BitVec.ofBool f.s ++ BitVec.ofBool f.z ++ 0#1 ++ BitVec.ofBool f.ac ++
    0#1 ++ BitVec.ofBool f.p ++ 1#1 ++ BitVec.ofBool f.cy

/-- The flags POP PSW loads from a byte: bits 7, 6, 4, 2 and 0; bits 5, 3 and 1 are ignored (R31). -/
def flagsOfByte (v : Byte) : Flags :=
  { s := v.getLsbD 7, z := v.getLsbD 6, ac := v.getLsbD 4, p := v.getLsbD 2, cy := v.getLsbD 0 }

/-- `cond(ccc)`: each condition tests one flag (30_encoding.md R85; 45_control_transfer.md R216). -/
def condHolds : Cond → Flags → Bool
  | .nz, f => !f.z
  | .z, f => f.z
  | .nc, f => !f.cy
  | .c, f => f.cy
  | .po, f => !f.p
  | .pe, f => f.p
  | .p, f => !f.s
  | .m, f => f.s

/-- The value of a flag by its name (R29). -/
def flagValue : FlagName → Flags → Bool
  | .z, f => f.z
  | .s, f => f.s
  | .p, f => f.p
  | .cy, f => f.cy
  | .ac, f => f.ac

end Sys2Proof.Machine
end

