-- ==== Sys2Proof/Decode.lean ====
section
/-! DEFINITION. Decoding the bytes of an instruction by the opcode grid of 30_encoding.md R90, and, after it, the
encoder. Decoding is total on every byte sequence and rejects by name a sequence that ends too early; the twelve
undefined opcodes decode to their own rows of the table (R96, R98; log entry 6). -/

namespace Sys2Proof

/-- `{hi, lo}`, the 16-bit concatenation (00_scope.md R11). -/
def wordOf (hi lo : Byte) : Word := hi ++ lo

/-- `v[15:8]` (R11). -/
def hiByte (v : Word) : Byte := v.extractLsb' 8 8

/-- `v[7:0]` (R11). -/
def loByte (v : Word) : Byte := v.extractLsb' 0 8

/-- A cell of the opcode grid: the instruction of a one-byte opcode (format F1), or what the operand byte (F2) or the
operand word (F3) makes of the opcode (R81). -/
inductive GridCell where
  | f1 (i : Instr)
  | f2 (mk : Byte → Instr)
  | f3 (mk : Word → Instr)

/-- Why a byte sequence is not the start of an instruction. -/
inductive DecodeError where
  /-- There is no opcode byte. -/
  | noOpcode
  /-- The sequence ends before the operand bytes of this opcode. -/
  | operandMissing (opcode : Byte)
  deriving DecidableEq, Repr

/-- Row 0x of the grid of R90. -/
def gridRow0 : List GridCell :=
  [.f1 .nop, .f3 .lxiB, .f1 .staxB, .f1 .inxB, .f1 .inrB, .f1 .dcrB, .f2 .mviB, .f1 .rlc,
   .f1 .undefined08, .f1 .dadB, .f1 .ldaxB, .f1 .dcxB, .f1 .inrC, .f1 .dcrC, .f2 .mviC, .f1 .rrc]

/-- Row 1x of the grid of R90. -/
def gridRow1 : List GridCell :=
  [.f1 .undefined10, .f3 .lxiD, .f1 .staxD, .f1 .inxD, .f1 .inrD, .f1 .dcrD, .f2 .mviD, .f1 .ral,
   .f1 .undefined18, .f1 .dadD, .f1 .ldaxD, .f1 .dcxD, .f1 .inrE, .f1 .dcrE, .f2 .mviE, .f1 .rar]

/-- Row 2x of the grid of R90. -/
def gridRow2 : List GridCell :=
  [.f1 .undefined20, .f3 .lxiH, .f3 .shld, .f1 .inxH, .f1 .inrH, .f1 .dcrH, .f2 .mviH, .f1 .daa,
   .f1 .undefined28, .f1 .dadH, .f3 .lhld, .f1 .dcxH, .f1 .inrL, .f1 .dcrL, .f2 .mviL, .f1 .cma]

/-- Row 3x of the grid of R90. -/
def gridRow3 : List GridCell :=
  [.f1 .undefined30, .f3 .lxiSp, .f3 .sta, .f1 .inxSp, .f1 .inrM, .f1 .dcrM, .f2 .mviM, .f1 .stc,
   .f1 .undefined38, .f1 .dadSp, .f3 .lda, .f1 .dcxSp, .f1 .inrA, .f1 .dcrA, .f2 .mviA, .f1 .cmc]

/-- Row 4x of the grid of R90. -/
def gridRow4 : List GridCell :=
  [.f1 .movBB, .f1 .movBC, .f1 .movBD, .f1 .movBE, .f1 .movBH, .f1 .movBL, .f1 .movBM, .f1 .movBA,
   .f1 .movCB, .f1 .movCC, .f1 .movCD, .f1 .movCE, .f1 .movCH, .f1 .movCL, .f1 .movCM, .f1 .movCA]

/-- Row 5x of the grid of R90. -/
def gridRow5 : List GridCell :=
  [.f1 .movDB, .f1 .movDC, .f1 .movDD, .f1 .movDE, .f1 .movDH, .f1 .movDL, .f1 .movDM, .f1 .movDA,
   .f1 .movEB, .f1 .movEC, .f1 .movED, .f1 .movEE, .f1 .movEH, .f1 .movEL, .f1 .movEM, .f1 .movEA]

/-- Row 6x of the grid of R90. -/
def gridRow6 : List GridCell :=
  [.f1 .movHB, .f1 .movHC, .f1 .movHD, .f1 .movHE, .f1 .movHH, .f1 .movHL, .f1 .movHM, .f1 .movHA,
   .f1 .movLB, .f1 .movLC, .f1 .movLD, .f1 .movLE, .f1 .movLH, .f1 .movLL, .f1 .movLM, .f1 .movLA]

/-- Row 7x of the grid of R90. -/
def gridRow7 : List GridCell :=
  [.f1 .movMB, .f1 .movMC, .f1 .movMD, .f1 .movME, .f1 .movMH, .f1 .movML, .f1 .hlt, .f1 .movMA,
   .f1 .movAB, .f1 .movAC, .f1 .movAD, .f1 .movAE, .f1 .movAH, .f1 .movAL, .f1 .movAM, .f1 .movAA]

/-- Row 8x of the grid of R90. -/
def gridRow8 : List GridCell :=
  [.f1 .addB, .f1 .addC, .f1 .addD, .f1 .addE, .f1 .addH, .f1 .addL, .f1 .addM, .f1 .addA,
   .f1 .adcB, .f1 .adcC, .f1 .adcD, .f1 .adcE, .f1 .adcH, .f1 .adcL, .f1 .adcM, .f1 .adcA]

/-- Row 9x of the grid of R90. -/
def gridRow9 : List GridCell :=
  [.f1 .subB, .f1 .subC, .f1 .subD, .f1 .subE, .f1 .subH, .f1 .subL, .f1 .subM, .f1 .subA,
   .f1 .sbbB, .f1 .sbbC, .f1 .sbbD, .f1 .sbbE, .f1 .sbbH, .f1 .sbbL, .f1 .sbbM, .f1 .sbbA]

/-- Row Ax of the grid of R90. -/
def gridRowA : List GridCell :=
  [.f1 .anaB, .f1 .anaC, .f1 .anaD, .f1 .anaE, .f1 .anaH, .f1 .anaL, .f1 .anaM, .f1 .anaA,
   .f1 .xraB, .f1 .xraC, .f1 .xraD, .f1 .xraE, .f1 .xraH, .f1 .xraL, .f1 .xraM, .f1 .xraA]

/-- Row Bx of the grid of R90. -/
def gridRowB : List GridCell :=
  [.f1 .oraB, .f1 .oraC, .f1 .oraD, .f1 .oraE, .f1 .oraH, .f1 .oraL, .f1 .oraM, .f1 .oraA,
   .f1 .cmpB, .f1 .cmpC, .f1 .cmpD, .f1 .cmpE, .f1 .cmpH, .f1 .cmpL, .f1 .cmpM, .f1 .cmpA]

/-- Row Cx of the grid of R90. -/
def gridRowC : List GridCell :=
  [.f1 .rnz, .f1 .popB, .f3 .jnz, .f3 .jmp, .f3 .cnz, .f1 .pushB, .f2 .adi, .f1 .rst0,
   .f1 .rz, .f1 .ret, .f3 .jz, .f1 .undefinedCB, .f3 .cz, .f3 .call, .f2 .aci, .f1 .rst1]

/-- Row Dx of the grid of R90. -/
def gridRowD : List GridCell :=
  [.f1 .rnc, .f1 .popD, .f3 .jnc, .f2 .outPort, .f3 .cnc, .f1 .pushD, .f2 .sui, .f1 .rst2,
   .f1 .rc, .f1 .undefinedD9, .f3 .jc, .f2 .inPort, .f3 .cc, .f1 .undefinedDD, .f2 .sbi, .f1 .rst3]

/-- Row Ex of the grid of R90. -/
def gridRowE : List GridCell :=
  [.f1 .rpo, .f1 .popH, .f3 .jpo, .f1 .xthl, .f3 .cpo, .f1 .pushH, .f2 .ani, .f1 .rst4,
   .f1 .rpe, .f1 .pchl, .f3 .jpe, .f1 .xchg, .f3 .cpe, .f1 .undefinedED, .f2 .xri, .f1 .rst5]

/-- Row Fx of the grid of R90. -/
def gridRowF : List GridCell :=
  [.f1 .rp, .f1 .popPsw, .f3 .jp, .f1 .di, .f3 .cp, .f1 .pushPsw, .f2 .ori, .f1 .rst6,
   .f1 .rm, .f1 .sphl, .f3 .jm, .f1 .ei, .f3 .cm, .f1 .undefinedFD, .f2 .cpi, .f1 .rst7]

/-- The row of the grid for a high nibble. -/
def gridRow : Nat → List GridCell
  | 0 => gridRow0
  | 1 => gridRow1
  | 2 => gridRow2
  | 3 => gridRow3
  | 4 => gridRow4
  | 5 => gridRow5
  | 6 => gridRow6
  | 7 => gridRow7
  | 8 => gridRow8
  | 9 => gridRow9
  | 10 => gridRowA
  | 11 => gridRowB
  | 12 => gridRowC
  | 13 => gridRowD
  | 14 => gridRowE
  | _ => gridRowF

/-- The grid's cell for an opcode byte: row by high nibble, column by low nibble (R90). Every row has sixteen cells, so
the default is never taken (Laws/Decode.lean, `gridRow_length`). -/
def gridCell (op : Byte) : GridCell :=
  (gridRow (op.toNat / 16)).getD (op.toNat % 16) (.f1 .nop)

/-- The instruction at the front of a byte sequence, and the bytes after it (R81, R84: d16 and a16 low byte first, C1). -/
def decode : List Byte → Except DecodeError (Instr × List Byte)
  | [] => .error .noOpcode
  | op :: rest =>
    match gridCell op, rest with
    | .f1 i, _ => .ok (i, rest)
    | .f2 mk, d8 :: rest => .ok (mk d8, rest)
    | .f3 mk, lo :: hi :: rest => .ok (mk (wordOf hi lo), rest)
    | _, _ => .error (.operandMissing op)

/-- The number of bytes of the instruction with this opcode, by R83's own lists (`00ddd110`, `11ooo110`, OUT, IN; `00rp0001`,
SHLD, LHLD, STA, LDA, JMP, `11ccc010`, CALL, `11ccc100`; every other one byte); an undefined opcode fetches its opcode byte
only. -/
def instrLength (op : Byte) : Nat :=
  let n := op.toNat
  if n / 64 == 0 && n % 8 == 6 || n / 64 == 3 && n % 8 == 6 || n == 0xD3 || n == 0xDB then 2
  else if n / 64 == 0 && n % 16 == 1 || n == 0x22 || n == 0x2A || n == 0x32 || n == 0x3A || n == 0xC3
      || n / 64 == 3 && n % 8 == 2 || n == 0xCD || n / 64 == 3 && n % 8 == 4 then 3
  else 1

/-- The twelve undefined opcode values of R96, in its order. -/
def undefinedOpcodes : List Byte :=
  [0x08#8, 0x10#8, 0x18#8, 0x20#8, 0x28#8, 0x30#8, 0x38#8, 0xCB#8, 0xD9#8, 0xDD#8, 0xED#8, 0xFD#8]

/-- The bytes of an instruction, in address order (R81, R84, R90). -/
def encode : Instr → List Byte
  | .nop => [0x00#8]
  | .lxiB d16 => [0x01#8, loByte d16, hiByte d16]
  | .staxB => [0x02#8]
  | .inxB => [0x03#8]
  | .inrB => [0x04#8]
  | .dcrB => [0x05#8]
  | .mviB d8 => [0x06#8, d8]
  | .rlc => [0x07#8]
  | .undefined08 => [0x08#8]
  | .dadB => [0x09#8]
  | .ldaxB => [0x0A#8]
  | .dcxB => [0x0B#8]
  | .inrC => [0x0C#8]
  | .dcrC => [0x0D#8]
  | .mviC d8 => [0x0E#8, d8]
  | .rrc => [0x0F#8]
  | .undefined10 => [0x10#8]
  | .lxiD d16 => [0x11#8, loByte d16, hiByte d16]
  | .staxD => [0x12#8]
  | .inxD => [0x13#8]
  | .inrD => [0x14#8]
  | .dcrD => [0x15#8]
  | .mviD d8 => [0x16#8, d8]
  | .ral => [0x17#8]
  | .undefined18 => [0x18#8]
  | .dadD => [0x19#8]
  | .ldaxD => [0x1A#8]
  | .dcxD => [0x1B#8]
  | .inrE => [0x1C#8]
  | .dcrE => [0x1D#8]
  | .mviE d8 => [0x1E#8, d8]
  | .rar => [0x1F#8]
  | .undefined20 => [0x20#8]
  | .lxiH d16 => [0x21#8, loByte d16, hiByte d16]
  | .shld a16 => [0x22#8, loByte a16, hiByte a16]
  | .inxH => [0x23#8]
  | .inrH => [0x24#8]
  | .dcrH => [0x25#8]
  | .mviH d8 => [0x26#8, d8]
  | .daa => [0x27#8]
  | .undefined28 => [0x28#8]
  | .dadH => [0x29#8]
  | .lhld a16 => [0x2A#8, loByte a16, hiByte a16]
  | .dcxH => [0x2B#8]
  | .inrL => [0x2C#8]
  | .dcrL => [0x2D#8]
  | .mviL d8 => [0x2E#8, d8]
  | .cma => [0x2F#8]
  | .undefined30 => [0x30#8]
  | .lxiSp d16 => [0x31#8, loByte d16, hiByte d16]
  | .sta a16 => [0x32#8, loByte a16, hiByte a16]
  | .inxSp => [0x33#8]
  | .inrM => [0x34#8]
  | .dcrM => [0x35#8]
  | .mviM d8 => [0x36#8, d8]
  | .stc => [0x37#8]
  | .undefined38 => [0x38#8]
  | .dadSp => [0x39#8]
  | .lda a16 => [0x3A#8, loByte a16, hiByte a16]
  | .dcxSp => [0x3B#8]
  | .inrA => [0x3C#8]
  | .dcrA => [0x3D#8]
  | .mviA d8 => [0x3E#8, d8]
  | .cmc => [0x3F#8]
  | .movBB => [0x40#8]
  | .movBC => [0x41#8]
  | .movBD => [0x42#8]
  | .movBE => [0x43#8]
  | .movBH => [0x44#8]
  | .movBL => [0x45#8]
  | .movBM => [0x46#8]
  | .movBA => [0x47#8]
  | .movCB => [0x48#8]
  | .movCC => [0x49#8]
  | .movCD => [0x4A#8]
  | .movCE => [0x4B#8]
  | .movCH => [0x4C#8]
  | .movCL => [0x4D#8]
  | .movCM => [0x4E#8]
  | .movCA => [0x4F#8]
  | .movDB => [0x50#8]
  | .movDC => [0x51#8]
  | .movDD => [0x52#8]
  | .movDE => [0x53#8]
  | .movDH => [0x54#8]
  | .movDL => [0x55#8]
  | .movDM => [0x56#8]
  | .movDA => [0x57#8]
  | .movEB => [0x58#8]
  | .movEC => [0x59#8]
  | .movED => [0x5A#8]
  | .movEE => [0x5B#8]
  | .movEH => [0x5C#8]
  | .movEL => [0x5D#8]
  | .movEM => [0x5E#8]
  | .movEA => [0x5F#8]
  | .movHB => [0x60#8]
  | .movHC => [0x61#8]
  | .movHD => [0x62#8]
  | .movHE => [0x63#8]
  | .movHH => [0x64#8]
  | .movHL => [0x65#8]
  | .movHM => [0x66#8]
  | .movHA => [0x67#8]
  | .movLB => [0x68#8]
  | .movLC => [0x69#8]
  | .movLD => [0x6A#8]
  | .movLE => [0x6B#8]
  | .movLH => [0x6C#8]
  | .movLL => [0x6D#8]
  | .movLM => [0x6E#8]
  | .movLA => [0x6F#8]
  | .movMB => [0x70#8]
  | .movMC => [0x71#8]
  | .movMD => [0x72#8]
  | .movME => [0x73#8]
  | .movMH => [0x74#8]
  | .movML => [0x75#8]
  | .hlt => [0x76#8]
  | .movMA => [0x77#8]
  | .movAB => [0x78#8]
  | .movAC => [0x79#8]
  | .movAD => [0x7A#8]
  | .movAE => [0x7B#8]
  | .movAH => [0x7C#8]
  | .movAL => [0x7D#8]
  | .movAM => [0x7E#8]
  | .movAA => [0x7F#8]
  | .addB => [0x80#8]
  | .addC => [0x81#8]
  | .addD => [0x82#8]
  | .addE => [0x83#8]
  | .addH => [0x84#8]
  | .addL => [0x85#8]
  | .addM => [0x86#8]
  | .addA => [0x87#8]
  | .adcB => [0x88#8]
  | .adcC => [0x89#8]
  | .adcD => [0x8A#8]
  | .adcE => [0x8B#8]
  | .adcH => [0x8C#8]
  | .adcL => [0x8D#8]
  | .adcM => [0x8E#8]
  | .adcA => [0x8F#8]
  | .subB => [0x90#8]
  | .subC => [0x91#8]
  | .subD => [0x92#8]
  | .subE => [0x93#8]
  | .subH => [0x94#8]
  | .subL => [0x95#8]
  | .subM => [0x96#8]
  | .subA => [0x97#8]
  | .sbbB => [0x98#8]
  | .sbbC => [0x99#8]
  | .sbbD => [0x9A#8]
  | .sbbE => [0x9B#8]
  | .sbbH => [0x9C#8]
  | .sbbL => [0x9D#8]
  | .sbbM => [0x9E#8]
  | .sbbA => [0x9F#8]
  | .anaB => [0xA0#8]
  | .anaC => [0xA1#8]
  | .anaD => [0xA2#8]
  | .anaE => [0xA3#8]
  | .anaH => [0xA4#8]
  | .anaL => [0xA5#8]
  | .anaM => [0xA6#8]
  | .anaA => [0xA7#8]
  | .xraB => [0xA8#8]
  | .xraC => [0xA9#8]
  | .xraD => [0xAA#8]
  | .xraE => [0xAB#8]
  | .xraH => [0xAC#8]
  | .xraL => [0xAD#8]
  | .xraM => [0xAE#8]
  | .xraA => [0xAF#8]
  | .oraB => [0xB0#8]
  | .oraC => [0xB1#8]
  | .oraD => [0xB2#8]
  | .oraE => [0xB3#8]
  | .oraH => [0xB4#8]
  | .oraL => [0xB5#8]
  | .oraM => [0xB6#8]
  | .oraA => [0xB7#8]
  | .cmpB => [0xB8#8]
  | .cmpC => [0xB9#8]
  | .cmpD => [0xBA#8]
  | .cmpE => [0xBB#8]
  | .cmpH => [0xBC#8]
  | .cmpL => [0xBD#8]
  | .cmpM => [0xBE#8]
  | .cmpA => [0xBF#8]
  | .rnz => [0xC0#8]
  | .popB => [0xC1#8]
  | .jnz a16 => [0xC2#8, loByte a16, hiByte a16]
  | .jmp a16 => [0xC3#8, loByte a16, hiByte a16]
  | .cnz a16 => [0xC4#8, loByte a16, hiByte a16]
  | .pushB => [0xC5#8]
  | .adi d8 => [0xC6#8, d8]
  | .rst0 => [0xC7#8]
  | .rz => [0xC8#8]
  | .ret => [0xC9#8]
  | .jz a16 => [0xCA#8, loByte a16, hiByte a16]
  | .undefinedCB => [0xCB#8]
  | .cz a16 => [0xCC#8, loByte a16, hiByte a16]
  | .call a16 => [0xCD#8, loByte a16, hiByte a16]
  | .aci d8 => [0xCE#8, d8]
  | .rst1 => [0xCF#8]
  | .rnc => [0xD0#8]
  | .popD => [0xD1#8]
  | .jnc a16 => [0xD2#8, loByte a16, hiByte a16]
  | .outPort port => [0xD3#8, port]
  | .cnc a16 => [0xD4#8, loByte a16, hiByte a16]
  | .pushD => [0xD5#8]
  | .sui d8 => [0xD6#8, d8]
  | .rst2 => [0xD7#8]
  | .rc => [0xD8#8]
  | .undefinedD9 => [0xD9#8]
  | .jc a16 => [0xDA#8, loByte a16, hiByte a16]
  | .inPort port => [0xDB#8, port]
  | .cc a16 => [0xDC#8, loByte a16, hiByte a16]
  | .undefinedDD => [0xDD#8]
  | .sbi d8 => [0xDE#8, d8]
  | .rst3 => [0xDF#8]
  | .rpo => [0xE0#8]
  | .popH => [0xE1#8]
  | .jpo a16 => [0xE2#8, loByte a16, hiByte a16]
  | .xthl => [0xE3#8]
  | .cpo a16 => [0xE4#8, loByte a16, hiByte a16]
  | .pushH => [0xE5#8]
  | .ani d8 => [0xE6#8, d8]
  | .rst4 => [0xE7#8]
  | .rpe => [0xE8#8]
  | .pchl => [0xE9#8]
  | .jpe a16 => [0xEA#8, loByte a16, hiByte a16]
  | .xchg => [0xEB#8]
  | .cpe a16 => [0xEC#8, loByte a16, hiByte a16]
  | .undefinedED => [0xED#8]
  | .xri d8 => [0xEE#8, d8]
  | .rst5 => [0xEF#8]
  | .rp => [0xF0#8]
  | .popPsw => [0xF1#8]
  | .jp a16 => [0xF2#8, loByte a16, hiByte a16]
  | .di => [0xF3#8]
  | .cp a16 => [0xF4#8, loByte a16, hiByte a16]
  | .pushPsw => [0xF5#8]
  | .ori d8 => [0xF6#8, d8]
  | .rst6 => [0xF7#8]
  | .rm => [0xF8#8]
  | .sphl => [0xF9#8]
  | .jm a16 => [0xFA#8, loByte a16, hiByte a16]
  | .ei => [0xFB#8]
  | .cm a16 => [0xFC#8, loByte a16, hiByte a16]
  | .undefinedFD => [0xFD#8]
  | .cpi d8 => [0xFE#8, d8]
  | .rst7 => [0xFF#8]

/-- The opcode byte of an instruction: the first byte of its encoding. -/
def opcodeOf (i : Instr) : Byte := (encode i).headD 0x00#8

/-- The three bytes of a number, bit 0 the least significant bit of the first byte, every bit from `nbits` on 0
(opcode_table.json's numbering; log entry 8). -/
def tableBytes (nbits w : Nat) : List Byte :=
  let v := w % 2 ^ nbits
  [BitVec.ofNat 8 v, BitVec.ofNat 8 (v / 256), BitVec.ofNat 8 (v / 65536)]

/-- The instruction `decode` reads from the bytes whose bits are `w`. -/
def decodeTableWord (nbits w : Nat) : Option Instr :=
  match decode (tableBytes nbits w) with
  | .ok (i, _) => some i
  | .error _ => none

end Sys2Proof
end

