-- ==== Sys2Proof/Machine/Ops.lean ====
section
/-! DEFINITION. The named operations: memory, fetching, the stack, the I/O interface, raising a fault, and the status
outputs. 20_memory.md R50 to R64; 46_io_system.md R260, R261; 60_exceptions.md R270 to R279. -/

namespace Sys2Proof.Machine

/-- The byte a memory holds at an address; an unlisted address reads as the reset value (R52; log entry 5). -/
def Memory.read : Memory → Nat → Byte
  | [], _ => Config.memReset
  | (k, w) :: m, n => if k = n then w else Memory.read m n

/-- The cells of a memory without those at an address. -/
def Memory.erase : Memory → Nat → Memory
  | [], _ => []
  | (k, w) :: m, n => if k = n then Memory.erase m n else (k, w) :: Memory.erase m n

/-- Add a cell before the first one of a higher address. -/
def Memory.insert : Memory → Nat → Byte → Memory
  | [], n, v => [(n, v)]
  | (k, w) :: m, n, v => if n < k then (n, v) :: (k, w) :: m else (k, w) :: Memory.insert m n v

/-- Store a byte at an address and keep the canonical form: a cell that gets the reset value is unlisted (R53; log
entry 5). -/
def Memory.write (m : Memory) (n : Nat) (v : Byte) : Memory :=
  if v = Config.memReset then Memory.erase m n else Memory.insert (Memory.erase m n) n v

/-- The canonical form from an address on: addresses strictly rising and inside the memory, no cell with the reset
value. -/
def Memory.wfFrom (lo : Nat) : Memory → Bool
  | [] => true
  | (k, w) :: m =>
    decide (lo ≤ k) && decide (k < Config.memSize) && (w != Config.memReset) && Memory.wfFrom (k + 1) m

/-- The canonical form of a memory. -/
def Memory.wf (m : Memory) : Bool := Memory.wfFrom 0 m

/-- `MemRead(addr, 1)` (R52). -/
def memRead (addr : Word) (s : State) : Byte := Memory.read s.mem addr.toNat

/-- `MemWrite(addr, 1, v)` (R53). -/
def memWrite (addr : Word) (v : Byte) (s : State) : State :=
  { s with mem := Memory.write s.mem addr.toNat v }

/-- `FetchByte()`: the byte at PC, and PC one further modulo 65,536 (R54). -/
def fetchByte (s : State) : Byte × State := (memRead s.pc s, { s with pc := s.pc + 1 })

/-- `FetchWord()`: two FetchByte; the first byte is the low one (R55; C1). -/
def fetchWord (s : State) : Word × State :=
  let (lo, s) := fetchByte s
  let (hi, s) := fetchByte s
  (wordOf hi lo, s)

/-- Fetch one whole instruction: the opcode byte, then the operand bytes its grid cell asks for and no others (10_state.md
R45; 30_encoding.md R81). PC ends after the last byte fetched (R26). -/
def fetchInstr (s : State) : Instr × State :=
  let (op, s) := fetchByte s
  match gridCell op with
  | .f1 i => (i, s)
  | .f2 mk => let (d8, s) := fetchByte s; (mk d8, s)
  | .f3 mk => let (d16, s) := fetchWord s; (mk d16, s)

/-- `Push16(v)`: the high byte at SP - 1, then the low byte at SP - 2 (R58). -/
def push16 (v : Word) (s : State) : State :=
  let s := { s with sp := s.sp - 1 }
  let s := memWrite s.sp (hiByte v) s
  let s := { s with sp := s.sp - 1 }
  memWrite s.sp (loByte v) s

/-- `Pop16()`: the low byte at SP, then the high byte at SP + 1 (R59). -/
def pop16 (s : State) : Word × State :=
  let lo := memRead s.sp s
  let s := { s with sp := s.sp + 1 }
  let hi := memRead s.sp s
  let s := { s with sp := s.sp + 1 }
  (wordOf hi lo, s)

/-- The answer of a handler's function for a port (R43). -/
def answerAt (answers : PortAnswers) (port : Byte) : Byte := answers.get port.toFin

/-- The byte the environment answers to an IN at a port (R43; 46_io_system.md R260; log entry 2). -/
def inputByte (port : Byte) (s : State) : Byte :=
  match s.inHandler with
  | .unset => 0x00#8
  | .fixed answers => answerAt answers port
  | .varying [] => Config.freeInput s.inReads port
  | .varying (answers :: _) => answerAt answers port

/-- The handler after one answer. -/
def nextHandler : InHandler → InHandler
  | .unset => .unset
  | .fixed answers => .fixed answers
  | .varying moments => .varying moments.tail

/-- `IoRead(port)`: presents the port and takes a byte back (R43); never fails and never blocks; no state of the block changes, only the model's record of the
environment (R260; log entry 2). -/
def ioRead (port : Byte) (s : State) : Byte × State :=
  (inputByte port s,
    { s with inHandler := nextHandler s.inHandler, inReads := s.inReads + 1, inPorts := s.inPorts ++ [port] })

/-- `IoWrite(port, v)`: presents the pair to the environment; no state of the block changes, only the model's record of
what was presented (R261; log entry 4). -/
def ioWrite (port v : Byte) (s : State) : State :=
  { s with outputs := s.outputs ++ [(port, v)] }

/-- `raise K(info)`: the FAULT latch takes the record (60_exceptions.md R270). It is the whole of taking an exception on
this hardware: no vector, no saved state, no mode (R278); and there is no return from it (R279). -/
def raiseFault (record : Fault) (s : State) : State := { s with fault := some record }

/-- UnimplementedOpcode: PC, which the opcode fetch advanced by one, goes back to the opcode's address, and the record
holds the opcode and that address (R271; 10_state.md R45). -/
def raiseUnimplemented (op : Byte) (s : State) : State :=
  raiseFault (.unimplementedOpcode op (s.pc - 1)) { s with pc := s.pc - 1 }

/-- The result of the step that led to a state (10_state.md R45; log entry 1). -/
def stepResult (s : State) : StepResult :=
  match s.fault with
  | some record => .failed record
  | none => if s.halted then .halted else .continued

/-- The numeric code of the FAULT status output (60_exceptions.md R274). -/
def faultCode : Option Fault → Nat
  | none => 0
  | some (.outOfBoundsAccess _) => 1
  | some (.unimplementedOpcode _ _) => 2
  | some (.ioHandlerMissing _) => 3

/-- Copy a byte sequence into a memory from an address on (20_memory.md R74). -/
def Memory.load : Memory → Nat → List Byte → Memory
  | m, _, [] => m
  | m, n, v :: bytes => Memory.load (Memory.write m n v) (n + 1) bytes

end Sys2Proof.Machine
end

