-- ==== Sys2Proof/Machine/Operands.lean ====
section
/-! DEFINITION. Operand access (00_scope.md R12; 10_state.md R21 to R25) and the operations that several instructions
share. Every meaning runs after all bytes of its instruction have been fetched: PC is the address of the next
sequential instruction (R26). -/

namespace Sys2Proof.Machine

/-- `r[c]` (R12). -/
def readReg : Reg → State → Byte
  | .b, s => s.b
  | .c, s => s.c
  | .d, s => s.d
  | .e, s => s.e
  | .h, s => s.h
  | .l, s => s.l
  | .a, s => s.a

/-- `r[c] <- v` (R12). -/
def writeReg : Reg → Byte → State → State
  | .b, v, s => { s with b := v }
  | .c, v, s => { s with c := v }
  | .d, v, s => { s with d := v }
  | .e, v, s => { s with e := v }
  | .h, v, s => { s with h := v }
  | .l, v, s => { s with l := v }
  | .a, v, s => { s with a := v }

/-- `rp[c]`; BC, DE and HL are views of two registers, the first named the high byte (R23, R24). -/
def readPair : Pair → State → Word
  | .bc, s => wordOf s.b s.c
  | .de, s => wordOf s.d s.e
  | .hl, s => wordOf s.h s.l
  | .sp, s => s.sp

/-- `rp[c] <- v`: the two registers take the high and the low byte (R23, R24). -/
def writePair : Pair → Word → State → State
  | .bc, v, s => { s with b := hiByte v, c := loByte v }
  | .de, v, s => { s with d := hiByte v, e := loByte v }
  | .hl, v, s => { s with h := hiByte v, l := loByte v }
  | .sp, v, s => { s with sp := v }

/-- The PSW, `{A, FLAGS}` (R25, R31). -/
def readPsw (s : State) : Word := wordOf s.a (flagsByte s.flags)

/-- Load the PSW: A from the high byte, the five flags from the low byte (R31; 44_stack.md R204). -/
def writePsw (v : Word) (s : State) : State :=
  { s with a := hiByte v, flags := flagsOfByte (loByte v) }

/-- `R8(c)`: a register, or the memory byte at HL (R12). -/
def readOperand : Operand → State → Byte
  | .reg r, s => readReg r s
  | .m, s => memRead (readPair .hl s) s

/-- `W8(c, v)` (R12). -/
def writeOperand : Operand → Byte → State → State
  | .reg r, v, s => writeReg r v s
  | .m, v, s => memWrite (readPair .hl s) v s

/-- `A <- Add8(A, v, c)` with its flags (42_arithmetic.md R151 to R154). -/
def aluAdd (v : Byte) (c : Bool) (s : State) : State :=
  { s with a := add8 s.a v c, flags := setArithAdd s.a v c }

/-- `A <- Sub8(A, v, c)` with its flags (R155 to R158). -/
def aluSub (v : Byte) (c : Bool) (s : State) : State :=
  { s with a := sub8 s.a v c, flags := setArithSub s.a v c }

/-- The flags of `Sub8(A, v, 0)`; A is not written (R159, R160). -/
def aluCmp (v : Byte) (s : State) : State := { s with flags := setArithSub s.a v false }

/-- `A <- w` with SetLogic: the common end of ANA, XRA, ORA and their immediate forms (43_logical.md R181 to R186). -/
def aluLogic (w : Byte) (s : State) : State := { s with a := w, flags := setLogic w }

/-- Write an operand and set Z, S and P from it: the common end of INR and DCR (42_arithmetic.md R161 to R164). -/
def storeZSP (o : Operand) (v : Byte) (s : State) : State :=
  let s := writeOperand o v s
  { s with flags := setZSP v s.flags }

/-- INR: add one (R161, R162). -/
def increment (o : Operand) (s : State) : State := storeZSP o (readOperand o s + 1) s

/-- DCR: subtract one (R163, R164). -/
def decrement (o : Operand) (s : State) : State := storeZSP o (readOperand o s - 1) s

/-- `HL <- HL + rp`, CY from bit 16 of the integer sum, no other flag (R167). -/
def addToHl (p : Pair) (s : State) : State :=
  let x := (readPair .hl s).toNat + (readPair p s).toNat
  let s := writePair .hl (BitVec.ofNat 16 x) s
  { s with flags := { s.flags with cy := x.testBit 16 } }

/-- The accumulator and CY of a rotate; no other flag (43_logical.md R187 to R190). -/
def rotateTo (w : Byte) (evicted : Bool) (s : State) : State :=
  { s with a := w, flags := { s.flags with cy := evicted } }

/-- Pop into a pair (44_stack.md R203). -/
def popPair (p : Pair) (s : State) : State :=
  let (v, s) := pop16 s
  writePair p v s

/-- `PC <- a` (45_control_transfer.md R219). -/
def jumpTo (a : Word) (s : State) : State := { s with pc := a }

/-- Push the return address, which is PC after the fetch, and go to the target (R229). -/
def callTo (a : Word) (s : State) : State := jumpTo a (push16 s.pc s)

/-- `PC <- Pop16()` (R239). -/
def returnFrom (s : State) : State :=
  let (a, s) := pop16 s
  jumpTo a s

/-- Do it when the condition holds, and nothing otherwise (R220, R230, R240). -/
def onCond (cond : Cond) (f : State → State) (s : State) : State :=
  if condHolds cond s.flags then f s else s

/-- The target of RST n: `zext_16(nnn * 8)`, the bits 00nnn000 (30_encoding.md R84; 45_control_transfer.md R252). -/
def restartTarget (n : BitVec 3) : Word := BitVec.setWidth 16 (n ++ 0#3)

end Sys2Proof.Machine
end

