-- ==== Sys2Proof/Machine/Arithmetic.lean ====
section
/-! DEFINITION. Arithmetic instructions (42_arithmetic.md R150 to R168). -/

namespace Sys2Proof.Machine

/-- ADD B (R151). -/
def execAddB (s : State) : Answer := .next (aluAdd (readOperand (.reg .b) s) false s)

/-- ADD C (R151). -/
def execAddC (s : State) : Answer := .next (aluAdd (readOperand (.reg .c) s) false s)

/-- ADD D (R151). -/
def execAddD (s : State) : Answer := .next (aluAdd (readOperand (.reg .d) s) false s)

/-- ADD E (R151). -/
def execAddE (s : State) : Answer := .next (aluAdd (readOperand (.reg .e) s) false s)

/-- ADD H (R151). -/
def execAddH (s : State) : Answer := .next (aluAdd (readOperand (.reg .h) s) false s)

/-- ADD L (R151). -/
def execAddL (s : State) : Answer := .next (aluAdd (readOperand (.reg .l) s) false s)

/-- ADD M (R151). -/
def execAddM (s : State) : Answer := .next (aluAdd (readOperand .m s) false s)

/-- ADD A (R151). -/
def execAddA (s : State) : Answer := .next (aluAdd (readOperand (.reg .a) s) false s)

/-- ADI d8 (R152). -/
def execAdi (d8 : Byte) (s : State) : Answer := .next (aluAdd d8 false s)

/-- ADC B (R153). -/
def execAdcB (s : State) : Answer := .next (aluAdd (readOperand (.reg .b) s) s.flags.cy s)

/-- ADC C (R153). -/
def execAdcC (s : State) : Answer := .next (aluAdd (readOperand (.reg .c) s) s.flags.cy s)

/-- ADC D (R153). -/
def execAdcD (s : State) : Answer := .next (aluAdd (readOperand (.reg .d) s) s.flags.cy s)

/-- ADC E (R153). -/
def execAdcE (s : State) : Answer := .next (aluAdd (readOperand (.reg .e) s) s.flags.cy s)

/-- ADC H (R153). -/
def execAdcH (s : State) : Answer := .next (aluAdd (readOperand (.reg .h) s) s.flags.cy s)

/-- ADC L (R153). -/
def execAdcL (s : State) : Answer := .next (aluAdd (readOperand (.reg .l) s) s.flags.cy s)

/-- ADC M (R153). -/
def execAdcM (s : State) : Answer := .next (aluAdd (readOperand .m s) s.flags.cy s)

/-- ADC A (R153). -/
def execAdcA (s : State) : Answer := .next (aluAdd (readOperand (.reg .a) s) s.flags.cy s)

/-- ACI d8 (R154). -/
def execAci (d8 : Byte) (s : State) : Answer := .next (aluAdd d8 s.flags.cy s)

/-- SUB B (R155). -/
def execSubB (s : State) : Answer := .next (aluSub (readOperand (.reg .b) s) false s)

/-- SUB C (R155). -/
def execSubC (s : State) : Answer := .next (aluSub (readOperand (.reg .c) s) false s)

/-- SUB D (R155). -/
def execSubD (s : State) : Answer := .next (aluSub (readOperand (.reg .d) s) false s)

/-- SUB E (R155). -/
def execSubE (s : State) : Answer := .next (aluSub (readOperand (.reg .e) s) false s)

/-- SUB H (R155). -/
def execSubH (s : State) : Answer := .next (aluSub (readOperand (.reg .h) s) false s)

/-- SUB L (R155). -/
def execSubL (s : State) : Answer := .next (aluSub (readOperand (.reg .l) s) false s)

/-- SUB M (R155). -/
def execSubM (s : State) : Answer := .next (aluSub (readOperand .m s) false s)

/-- SUB A (R155). -/
def execSubA (s : State) : Answer := .next (aluSub (readOperand (.reg .a) s) false s)

/-- SUI d8 (R156). -/
def execSui (d8 : Byte) (s : State) : Answer := .next (aluSub d8 false s)

/-- SBB B (R157). -/
def execSbbB (s : State) : Answer := .next (aluSub (readOperand (.reg .b) s) s.flags.cy s)

/-- SBB C (R157). -/
def execSbbC (s : State) : Answer := .next (aluSub (readOperand (.reg .c) s) s.flags.cy s)

/-- SBB D (R157). -/
def execSbbD (s : State) : Answer := .next (aluSub (readOperand (.reg .d) s) s.flags.cy s)

/-- SBB E (R157). -/
def execSbbE (s : State) : Answer := .next (aluSub (readOperand (.reg .e) s) s.flags.cy s)

/-- SBB H (R157). -/
def execSbbH (s : State) : Answer := .next (aluSub (readOperand (.reg .h) s) s.flags.cy s)

/-- SBB L (R157). -/
def execSbbL (s : State) : Answer := .next (aluSub (readOperand (.reg .l) s) s.flags.cy s)

/-- SBB M (R157). -/
def execSbbM (s : State) : Answer := .next (aluSub (readOperand .m s) s.flags.cy s)

/-- SBB A (R157). -/
def execSbbA (s : State) : Answer := .next (aluSub (readOperand (.reg .a) s) s.flags.cy s)

/-- SBI d8 (R158). -/
def execSbi (d8 : Byte) (s : State) : Answer := .next (aluSub d8 s.flags.cy s)

/-- CMP B (R159). -/
def execCmpB (s : State) : Answer := .next (aluCmp (readOperand (.reg .b) s) s)

/-- CMP C (R159). -/
def execCmpC (s : State) : Answer := .next (aluCmp (readOperand (.reg .c) s) s)

/-- CMP D (R159). -/
def execCmpD (s : State) : Answer := .next (aluCmp (readOperand (.reg .d) s) s)

/-- CMP E (R159). -/
def execCmpE (s : State) : Answer := .next (aluCmp (readOperand (.reg .e) s) s)

/-- CMP H (R159). -/
def execCmpH (s : State) : Answer := .next (aluCmp (readOperand (.reg .h) s) s)

/-- CMP L (R159). -/
def execCmpL (s : State) : Answer := .next (aluCmp (readOperand (.reg .l) s) s)

/-- CMP M (R159). -/
def execCmpM (s : State) : Answer := .next (aluCmp (readOperand .m s) s)

/-- CMP A (R159). -/
def execCmpA (s : State) : Answer := .next (aluCmp (readOperand (.reg .a) s) s)

/-- CPI d8 (R160). -/
def execCpi (d8 : Byte) (s : State) : Answer := .next (aluCmp d8 s)

/-- INR B (R161). -/
def execInrB (s : State) : Answer := .next (increment (.reg .b) s)

/-- INR C (R161). -/
def execInrC (s : State) : Answer := .next (increment (.reg .c) s)

/-- INR D (R161). -/
def execInrD (s : State) : Answer := .next (increment (.reg .d) s)

/-- INR E (R161). -/
def execInrE (s : State) : Answer := .next (increment (.reg .e) s)

/-- INR H (R161). -/
def execInrH (s : State) : Answer := .next (increment (.reg .h) s)

/-- INR L (R161). -/
def execInrL (s : State) : Answer := .next (increment (.reg .l) s)

/-- INR A (R161). -/
def execInrA (s : State) : Answer := .next (increment (.reg .a) s)

/-- INR M (R162). -/
def execInrM (s : State) : Answer := .next (increment .m s)

/-- DCR B (R163). -/
def execDcrB (s : State) : Answer := .next (decrement (.reg .b) s)

/-- DCR C (R163). -/
def execDcrC (s : State) : Answer := .next (decrement (.reg .c) s)

/-- DCR D (R163). -/
def execDcrD (s : State) : Answer := .next (decrement (.reg .d) s)

/-- DCR E (R163). -/
def execDcrE (s : State) : Answer := .next (decrement (.reg .e) s)

/-- DCR H (R163). -/
def execDcrH (s : State) : Answer := .next (decrement (.reg .h) s)

/-- DCR L (R163). -/
def execDcrL (s : State) : Answer := .next (decrement (.reg .l) s)

/-- DCR A (R163). -/
def execDcrA (s : State) : Answer := .next (decrement (.reg .a) s)

/-- DCR M (R164). -/
def execDcrM (s : State) : Answer := .next (decrement .m s)

/-- INX B (R165). -/
def execInxB (s : State) : Answer := .next (writePair .bc (readPair .bc s + 1) s)

/-- INX D (R165). -/
def execInxD (s : State) : Answer := .next (writePair .de (readPair .de s + 1) s)

/-- INX H (R165). -/
def execInxH (s : State) : Answer := .next (writePair .hl (readPair .hl s + 1) s)

/-- INX SP (R165). -/
def execInxSp (s : State) : Answer := .next (writePair .sp (readPair .sp s + 1) s)

/-- DCX B (R166). -/
def execDcxB (s : State) : Answer := .next (writePair .bc (readPair .bc s - 1) s)

/-- DCX D (R166). -/
def execDcxD (s : State) : Answer := .next (writePair .de (readPair .de s - 1) s)

/-- DCX H (R166). -/
def execDcxH (s : State) : Answer := .next (writePair .hl (readPair .hl s - 1) s)

/-- DCX SP (R166). -/
def execDcxSp (s : State) : Answer := .next (writePair .sp (readPair .sp s - 1) s)

/-- DAD B (R167). -/
def execDadB (s : State) : Answer := .next (addToHl .bc s)

/-- DAD D (R167). -/
def execDadD (s : State) : Answer := .next (addToHl .de s)

/-- DAD H (R167). -/
def execDadH (s : State) : Answer := .next (addToHl .hl s)

/-- DAD SP (R167). -/
def execDadSp (s : State) : Answer := .next (addToHl .sp s)

/-- DAA (R168). -/
def execDaa (s : State) : Answer := .next { s with a := daaResult s.a s.flags, flags := daaFlags s.a s.flags }

end Sys2Proof.Machine
end

