-- ==== Sys2Proof/Machine/Control.lean ====
section
/-! DEFINITION. Control transfer instructions (45_control_transfer.md R215 to R253). PC is the address after the instruction when a
meaning starts, so a transfer that is not taken leaves it (R218). -/

namespace Sys2Proof.Machine

/-- JMP a16 (R219). -/
def execJmp (a16 : Word) (s : State) : Answer := .next (jumpTo a16 s)

/-- JNZ a16 (R221). -/
def execJnz (a16 : Word) (s : State) : Answer := .next (onCond .nz (jumpTo a16) s)

/-- JZ a16 (R222). -/
def execJz (a16 : Word) (s : State) : Answer := .next (onCond .z (jumpTo a16) s)

/-- JNC a16 (R223). -/
def execJnc (a16 : Word) (s : State) : Answer := .next (onCond .nc (jumpTo a16) s)

/-- JC a16 (R224). -/
def execJc (a16 : Word) (s : State) : Answer := .next (onCond .c (jumpTo a16) s)

/-- JPO a16 (R225). -/
def execJpo (a16 : Word) (s : State) : Answer := .next (onCond .po (jumpTo a16) s)

/-- JPE a16 (R226). -/
def execJpe (a16 : Word) (s : State) : Answer := .next (onCond .pe (jumpTo a16) s)

/-- JP a16 (R227). -/
def execJp (a16 : Word) (s : State) : Answer := .next (onCond .p (jumpTo a16) s)

/-- JM a16 (R228). -/
def execJm (a16 : Word) (s : State) : Answer := .next (onCond .m (jumpTo a16) s)

/-- CALL a16 (R229). -/
def execCall (a16 : Word) (s : State) : Answer := .next (callTo a16 s)

/-- CNZ a16 (R231). -/
def execCnz (a16 : Word) (s : State) : Answer := .next (onCond .nz (callTo a16) s)

/-- CZ a16 (R232). -/
def execCz (a16 : Word) (s : State) : Answer := .next (onCond .z (callTo a16) s)

/-- CNC a16 (R233). -/
def execCnc (a16 : Word) (s : State) : Answer := .next (onCond .nc (callTo a16) s)

/-- CC a16 (R234). -/
def execCc (a16 : Word) (s : State) : Answer := .next (onCond .c (callTo a16) s)

/-- CPO a16 (R235). -/
def execCpo (a16 : Word) (s : State) : Answer := .next (onCond .po (callTo a16) s)

/-- CPE a16 (R236). -/
def execCpe (a16 : Word) (s : State) : Answer := .next (onCond .pe (callTo a16) s)

/-- CP a16 (R237). -/
def execCp (a16 : Word) (s : State) : Answer := .next (onCond .p (callTo a16) s)

/-- CM a16 (R238). -/
def execCm (a16 : Word) (s : State) : Answer := .next (onCond .m (callTo a16) s)

/-- RET (R239). -/
def execRet (s : State) : Answer := .next (returnFrom s)

/-- RNZ (R241). -/
def execRnz (s : State) : Answer := .next (onCond .nz returnFrom s)

/-- RZ (R242). -/
def execRz (s : State) : Answer := .next (onCond .z returnFrom s)

/-- RNC (R243). -/
def execRnc (s : State) : Answer := .next (onCond .nc returnFrom s)

/-- RC (R244). -/
def execRc (s : State) : Answer := .next (onCond .c returnFrom s)

/-- RPO (R245). -/
def execRpo (s : State) : Answer := .next (onCond .po returnFrom s)

/-- RPE (R246). -/
def execRpe (s : State) : Answer := .next (onCond .pe returnFrom s)

/-- RP (R247). -/
def execRp (s : State) : Answer := .next (onCond .p returnFrom s)

/-- RM (R248). -/
def execRm (s : State) : Answer := .next (onCond .m returnFrom s)

/-- RST 0 (R252). -/
def execRst0 (s : State) : Answer := .next (callTo (restartTarget 0#3) s)

/-- RST 1 (R252). -/
def execRst1 (s : State) : Answer := .next (callTo (restartTarget 1#3) s)

/-- RST 2 (R252). -/
def execRst2 (s : State) : Answer := .next (callTo (restartTarget 2#3) s)

/-- RST 3 (R252). -/
def execRst3 (s : State) : Answer := .next (callTo (restartTarget 3#3) s)

/-- RST 4 (R252). -/
def execRst4 (s : State) : Answer := .next (callTo (restartTarget 4#3) s)

/-- RST 5 (R252). -/
def execRst5 (s : State) : Answer := .next (callTo (restartTarget 5#3) s)

/-- RST 6 (R252). -/
def execRst6 (s : State) : Answer := .next (callTo (restartTarget 6#3) s)

/-- RST 7 (R252). -/
def execRst7 (s : State) : Answer := .next (callTo (restartTarget 7#3) s)

/-- PCHL (R253). -/
def execPchl (s : State) : Answer := .next (jumpTo (readPair .hl s) s)

end Sys2Proof.Machine
end

