-- ==== Sys2Proof/Machine/DataTransfer.lean ====
section
/-! DEFINITION. Data transfer instructions (41_data_transfer.md R130 to R143): moves; no flag is written and none can fault. -/

namespace Sys2Proof.Machine

/-- MOV B,B (R131). -/
def execMovBB (s : State) : Answer := .next (writeOperand (.reg .b) (readOperand (.reg .b) s) s)

/-- MOV B,C (R131). -/
def execMovBC (s : State) : Answer := .next (writeOperand (.reg .b) (readOperand (.reg .c) s) s)

/-- MOV B,D (R131). -/
def execMovBD (s : State) : Answer := .next (writeOperand (.reg .b) (readOperand (.reg .d) s) s)

/-- MOV B,E (R131). -/
def execMovBE (s : State) : Answer := .next (writeOperand (.reg .b) (readOperand (.reg .e) s) s)

/-- MOV B,H (R131). -/
def execMovBH (s : State) : Answer := .next (writeOperand (.reg .b) (readOperand (.reg .h) s) s)

/-- MOV B,L (R131). -/
def execMovBL (s : State) : Answer := .next (writeOperand (.reg .b) (readOperand (.reg .l) s) s)

/-- MOV B,A (R131). -/
def execMovBA (s : State) : Answer := .next (writeOperand (.reg .b) (readOperand (.reg .a) s) s)

/-- MOV C,B (R131). -/
def execMovCB (s : State) : Answer := .next (writeOperand (.reg .c) (readOperand (.reg .b) s) s)

/-- MOV C,C (R131). -/
def execMovCC (s : State) : Answer := .next (writeOperand (.reg .c) (readOperand (.reg .c) s) s)

/-- MOV C,D (R131). -/
def execMovCD (s : State) : Answer := .next (writeOperand (.reg .c) (readOperand (.reg .d) s) s)

/-- MOV C,E (R131). -/
def execMovCE (s : State) : Answer := .next (writeOperand (.reg .c) (readOperand (.reg .e) s) s)

/-- MOV C,H (R131). -/
def execMovCH (s : State) : Answer := .next (writeOperand (.reg .c) (readOperand (.reg .h) s) s)

/-- MOV C,L (R131). -/
def execMovCL (s : State) : Answer := .next (writeOperand (.reg .c) (readOperand (.reg .l) s) s)

/-- MOV C,A (R131). -/
def execMovCA (s : State) : Answer := .next (writeOperand (.reg .c) (readOperand (.reg .a) s) s)

/-- MOV D,B (R131). -/
def execMovDB (s : State) : Answer := .next (writeOperand (.reg .d) (readOperand (.reg .b) s) s)

/-- MOV D,C (R131). -/
def execMovDC (s : State) : Answer := .next (writeOperand (.reg .d) (readOperand (.reg .c) s) s)

/-- MOV D,D (R131). -/
def execMovDD (s : State) : Answer := .next (writeOperand (.reg .d) (readOperand (.reg .d) s) s)

/-- MOV D,E (R131). -/
def execMovDE (s : State) : Answer := .next (writeOperand (.reg .d) (readOperand (.reg .e) s) s)

/-- MOV D,H (R131). -/
def execMovDH (s : State) : Answer := .next (writeOperand (.reg .d) (readOperand (.reg .h) s) s)

/-- MOV D,L (R131). -/
def execMovDL (s : State) : Answer := .next (writeOperand (.reg .d) (readOperand (.reg .l) s) s)

/-- MOV D,A (R131). -/
def execMovDA (s : State) : Answer := .next (writeOperand (.reg .d) (readOperand (.reg .a) s) s)

/-- MOV E,B (R131). -/
def execMovEB (s : State) : Answer := .next (writeOperand (.reg .e) (readOperand (.reg .b) s) s)

/-- MOV E,C (R131). -/
def execMovEC (s : State) : Answer := .next (writeOperand (.reg .e) (readOperand (.reg .c) s) s)

/-- MOV E,D (R131). -/
def execMovED (s : State) : Answer := .next (writeOperand (.reg .e) (readOperand (.reg .d) s) s)

/-- MOV E,E (R131). -/
def execMovEE (s : State) : Answer := .next (writeOperand (.reg .e) (readOperand (.reg .e) s) s)

/-- MOV E,H (R131). -/
def execMovEH (s : State) : Answer := .next (writeOperand (.reg .e) (readOperand (.reg .h) s) s)

/-- MOV E,L (R131). -/
def execMovEL (s : State) : Answer := .next (writeOperand (.reg .e) (readOperand (.reg .l) s) s)

/-- MOV E,A (R131). -/
def execMovEA (s : State) : Answer := .next (writeOperand (.reg .e) (readOperand (.reg .a) s) s)

/-- MOV H,B (R131). -/
def execMovHB (s : State) : Answer := .next (writeOperand (.reg .h) (readOperand (.reg .b) s) s)

/-- MOV H,C (R131). -/
def execMovHC (s : State) : Answer := .next (writeOperand (.reg .h) (readOperand (.reg .c) s) s)

/-- MOV H,D (R131). -/
def execMovHD (s : State) : Answer := .next (writeOperand (.reg .h) (readOperand (.reg .d) s) s)

/-- MOV H,E (R131). -/
def execMovHE (s : State) : Answer := .next (writeOperand (.reg .h) (readOperand (.reg .e) s) s)

/-- MOV H,H (R131). -/
def execMovHH (s : State) : Answer := .next (writeOperand (.reg .h) (readOperand (.reg .h) s) s)

/-- MOV H,L (R131). -/
def execMovHL (s : State) : Answer := .next (writeOperand (.reg .h) (readOperand (.reg .l) s) s)

/-- MOV H,A (R131). -/
def execMovHA (s : State) : Answer := .next (writeOperand (.reg .h) (readOperand (.reg .a) s) s)

/-- MOV L,B (R131). -/
def execMovLB (s : State) : Answer := .next (writeOperand (.reg .l) (readOperand (.reg .b) s) s)

/-- MOV L,C (R131). -/
def execMovLC (s : State) : Answer := .next (writeOperand (.reg .l) (readOperand (.reg .c) s) s)

/-- MOV L,D (R131). -/
def execMovLD (s : State) : Answer := .next (writeOperand (.reg .l) (readOperand (.reg .d) s) s)

/-- MOV L,E (R131). -/
def execMovLE (s : State) : Answer := .next (writeOperand (.reg .l) (readOperand (.reg .e) s) s)

/-- MOV L,H (R131). -/
def execMovLH (s : State) : Answer := .next (writeOperand (.reg .l) (readOperand (.reg .h) s) s)

/-- MOV L,L (R131). -/
def execMovLL (s : State) : Answer := .next (writeOperand (.reg .l) (readOperand (.reg .l) s) s)

/-- MOV L,A (R131). -/
def execMovLA (s : State) : Answer := .next (writeOperand (.reg .l) (readOperand (.reg .a) s) s)

/-- MOV A,B (R131). -/
def execMovAB (s : State) : Answer := .next (writeOperand (.reg .a) (readOperand (.reg .b) s) s)

/-- MOV A,C (R131). -/
def execMovAC (s : State) : Answer := .next (writeOperand (.reg .a) (readOperand (.reg .c) s) s)

/-- MOV A,D (R131). -/
def execMovAD (s : State) : Answer := .next (writeOperand (.reg .a) (readOperand (.reg .d) s) s)

/-- MOV A,E (R131). -/
def execMovAE (s : State) : Answer := .next (writeOperand (.reg .a) (readOperand (.reg .e) s) s)

/-- MOV A,H (R131). -/
def execMovAH (s : State) : Answer := .next (writeOperand (.reg .a) (readOperand (.reg .h) s) s)

/-- MOV A,L (R131). -/
def execMovAL (s : State) : Answer := .next (writeOperand (.reg .a) (readOperand (.reg .l) s) s)

/-- MOV A,A (R131). -/
def execMovAA (s : State) : Answer := .next (writeOperand (.reg .a) (readOperand (.reg .a) s) s)

/-- MOV B,M (R132). -/
def execMovBM (s : State) : Answer := .next (writeOperand (.reg .b) (readOperand .m s) s)

/-- MOV C,M (R132). -/
def execMovCM (s : State) : Answer := .next (writeOperand (.reg .c) (readOperand .m s) s)

/-- MOV D,M (R132). -/
def execMovDM (s : State) : Answer := .next (writeOperand (.reg .d) (readOperand .m s) s)

/-- MOV E,M (R132). -/
def execMovEM (s : State) : Answer := .next (writeOperand (.reg .e) (readOperand .m s) s)

/-- MOV H,M (R132). -/
def execMovHM (s : State) : Answer := .next (writeOperand (.reg .h) (readOperand .m s) s)

/-- MOV L,M (R132). -/
def execMovLM (s : State) : Answer := .next (writeOperand (.reg .l) (readOperand .m s) s)

/-- MOV A,M (R132). -/
def execMovAM (s : State) : Answer := .next (writeOperand (.reg .a) (readOperand .m s) s)

/-- MOV M,B (R133). -/
def execMovMB (s : State) : Answer := .next (writeOperand .m (readOperand (.reg .b) s) s)

/-- MOV M,C (R133). -/
def execMovMC (s : State) : Answer := .next (writeOperand .m (readOperand (.reg .c) s) s)

/-- MOV M,D (R133). -/
def execMovMD (s : State) : Answer := .next (writeOperand .m (readOperand (.reg .d) s) s)

/-- MOV M,E (R133). -/
def execMovME (s : State) : Answer := .next (writeOperand .m (readOperand (.reg .e) s) s)

/-- MOV M,H (R133). -/
def execMovMH (s : State) : Answer := .next (writeOperand .m (readOperand (.reg .h) s) s)

/-- MOV M,L (R133). -/
def execMovML (s : State) : Answer := .next (writeOperand .m (readOperand (.reg .l) s) s)

/-- MOV M,A (R133). -/
def execMovMA (s : State) : Answer := .next (writeOperand .m (readOperand (.reg .a) s) s)

/-- MVI B,d8 (R134). -/
def execMviB (d8 : Byte) (s : State) : Answer := .next (writeOperand (.reg .b) d8 s)

/-- MVI C,d8 (R134). -/
def execMviC (d8 : Byte) (s : State) : Answer := .next (writeOperand (.reg .c) d8 s)

/-- MVI D,d8 (R134). -/
def execMviD (d8 : Byte) (s : State) : Answer := .next (writeOperand (.reg .d) d8 s)

/-- MVI E,d8 (R134). -/
def execMviE (d8 : Byte) (s : State) : Answer := .next (writeOperand (.reg .e) d8 s)

/-- MVI H,d8 (R134). -/
def execMviH (d8 : Byte) (s : State) : Answer := .next (writeOperand (.reg .h) d8 s)

/-- MVI L,d8 (R134). -/
def execMviL (d8 : Byte) (s : State) : Answer := .next (writeOperand (.reg .l) d8 s)

/-- MVI A,d8 (R134). -/
def execMviA (d8 : Byte) (s : State) : Answer := .next (writeOperand (.reg .a) d8 s)

/-- MVI M,d8 (R135). -/
def execMviM (d8 : Byte) (s : State) : Answer := .next (writeOperand .m d8 s)

/-- LXI B,d16 (R136). -/
def execLxiB (d16 : Word) (s : State) : Answer := .next (writePair .bc d16 s)

/-- LXI D,d16 (R136). -/
def execLxiD (d16 : Word) (s : State) : Answer := .next (writePair .de d16 s)

/-- LXI H,d16 (R136). -/
def execLxiH (d16 : Word) (s : State) : Answer := .next (writePair .hl d16 s)

/-- LXI SP,d16 (R136). -/
def execLxiSp (d16 : Word) (s : State) : Answer := .next (writePair .sp d16 s)

/-- LDA a16 (R137). -/
def execLda (a16 : Word) (s : State) : Answer := .next { s with a := memRead a16 s }

/-- LHLD a16 (R138). -/
def execLhld (a16 : Word) (s : State) : Answer := .next { s with l := memRead a16 s, h := memRead (a16 + 1) s }

/-- SHLD a16 (R139). -/
def execShld (a16 : Word) (s : State) : Answer := .next (memWrite (a16 + 1) s.h (memWrite a16 s.l s))

/-- STA a16 (R140). -/
def execSta (a16 : Word) (s : State) : Answer := .next (memWrite a16 s.a s)

/-- LDAX B (R141). -/
def execLdaxB (s : State) : Answer := .next { s with a := memRead (readPair .bc s) s }

/-- LDAX D (R141). -/
def execLdaxD (s : State) : Answer := .next { s with a := memRead (readPair .de s) s }

/-- STAX B (R142). -/
def execStaxB (s : State) : Answer := .next (memWrite (readPair .bc s) s.a s)

/-- STAX D (R142). -/
def execStaxD (s : State) : Answer := .next (memWrite (readPair .de s) s.a s)

/-- XCHG (R143). -/
def execXchg (s : State) : Answer := .next { s with d := s.h, e := s.l, h := s.d, l := s.e }

end Sys2Proof.Machine
end

