-- ==== Sys2Proof/Machine/Logical.lean ====
section
/-! DEFINITION. Logical, rotate and carry instructions (43_logical.md R180 to R193). -/

namespace Sys2Proof.Machine

/-- ANA B (R181). -/
def execAnaB (s : State) : Answer := .next (aluLogic (s.a &&& readOperand (.reg .b) s) s)

/-- ANA C (R181). -/
def execAnaC (s : State) : Answer := .next (aluLogic (s.a &&& readOperand (.reg .c) s) s)

/-- ANA D (R181). -/
def execAnaD (s : State) : Answer := .next (aluLogic (s.a &&& readOperand (.reg .d) s) s)

/-- ANA E (R181). -/
def execAnaE (s : State) : Answer := .next (aluLogic (s.a &&& readOperand (.reg .e) s) s)

/-- ANA H (R181). -/
def execAnaH (s : State) : Answer := .next (aluLogic (s.a &&& readOperand (.reg .h) s) s)

/-- ANA L (R181). -/
def execAnaL (s : State) : Answer := .next (aluLogic (s.a &&& readOperand (.reg .l) s) s)

/-- ANA M (R181). -/
def execAnaM (s : State) : Answer := .next (aluLogic (s.a &&& readOperand .m s) s)

/-- ANA A (R181). -/
def execAnaA (s : State) : Answer := .next (aluLogic (s.a &&& readOperand (.reg .a) s) s)

/-- ANI d8 (R182). -/
def execAni (d8 : Byte) (s : State) : Answer := .next (aluLogic (s.a &&& d8) s)

/-- XRA B (R183). -/
def execXraB (s : State) : Answer := .next (aluLogic (s.a ^^^ readOperand (.reg .b) s) s)

/-- XRA C (R183). -/
def execXraC (s : State) : Answer := .next (aluLogic (s.a ^^^ readOperand (.reg .c) s) s)

/-- XRA D (R183). -/
def execXraD (s : State) : Answer := .next (aluLogic (s.a ^^^ readOperand (.reg .d) s) s)

/-- XRA E (R183). -/
def execXraE (s : State) : Answer := .next (aluLogic (s.a ^^^ readOperand (.reg .e) s) s)

/-- XRA H (R183). -/
def execXraH (s : State) : Answer := .next (aluLogic (s.a ^^^ readOperand (.reg .h) s) s)

/-- XRA L (R183). -/
def execXraL (s : State) : Answer := .next (aluLogic (s.a ^^^ readOperand (.reg .l) s) s)

/-- XRA M (R183). -/
def execXraM (s : State) : Answer := .next (aluLogic (s.a ^^^ readOperand .m s) s)

/-- XRA A (R183). -/
def execXraA (s : State) : Answer := .next (aluLogic (s.a ^^^ readOperand (.reg .a) s) s)

/-- XRI d8 (R184). -/
def execXri (d8 : Byte) (s : State) : Answer := .next (aluLogic (s.a ^^^ d8) s)

/-- ORA B (R185). -/
def execOraB (s : State) : Answer := .next (aluLogic (s.a ||| readOperand (.reg .b) s) s)

/-- ORA C (R185). -/
def execOraC (s : State) : Answer := .next (aluLogic (s.a ||| readOperand (.reg .c) s) s)

/-- ORA D (R185). -/
def execOraD (s : State) : Answer := .next (aluLogic (s.a ||| readOperand (.reg .d) s) s)

/-- ORA E (R185). -/
def execOraE (s : State) : Answer := .next (aluLogic (s.a ||| readOperand (.reg .e) s) s)

/-- ORA H (R185). -/
def execOraH (s : State) : Answer := .next (aluLogic (s.a ||| readOperand (.reg .h) s) s)

/-- ORA L (R185). -/
def execOraL (s : State) : Answer := .next (aluLogic (s.a ||| readOperand (.reg .l) s) s)

/-- ORA M (R185). -/
def execOraM (s : State) : Answer := .next (aluLogic (s.a ||| readOperand .m s) s)

/-- ORA A (R185). -/
def execOraA (s : State) : Answer := .next (aluLogic (s.a ||| readOperand (.reg .a) s) s)

/-- ORI d8 (R186). -/
def execOri (d8 : Byte) (s : State) : Answer := .next (aluLogic (s.a ||| d8) s)

/-- RLC (R187). -/
def execRlc (s : State) : Answer :=
  .next (rotateTo (s.a.extractLsb' 0 7 ++ BitVec.ofBool (s.a.getLsbD 7)) (s.a.getLsbD 7) s)

/-- RRC (R188). -/
def execRrc (s : State) : Answer :=
  .next (rotateTo (BitVec.ofBool (s.a.getLsbD 0) ++ s.a.extractLsb' 1 7) (s.a.getLsbD 0) s)

/-- RAL (R189). -/
def execRal (s : State) : Answer :=
  .next (rotateTo (s.a.extractLsb' 0 7 ++ BitVec.ofBool s.flags.cy) (s.a.getLsbD 7) s)

/-- RAR (R190). -/
def execRar (s : State) : Answer :=
  .next (rotateTo (BitVec.ofBool s.flags.cy ++ s.a.extractLsb' 1 7) (s.a.getLsbD 0) s)

/-- CMA (R191). -/
def execCma (s : State) : Answer := .next { s with a := ~~~s.a }

/-- CMC (R192). -/
def execCmc (s : State) : Answer := .next { s with flags := { s.flags with cy := !s.flags.cy } }

/-- STC (R193). -/
def execStc (s : State) : Answer := .next { s with flags := { s.flags with cy := true } }

end Sys2Proof.Machine
end

