-- ==== Sys2Proof/Machine/Stack.lean ====
section
/-! DEFINITION. Stack instructions (44_stack.md R200 to R206). -/

namespace Sys2Proof.Machine

/-- POP B (R203). -/
def execPopB (s : State) : Answer := .next (popPair .bc s)

/-- PUSH B (R201). -/
def execPushB (s : State) : Answer := .next (push16 (readPair .bc s) s)

/-- POP D (R203). -/
def execPopD (s : State) : Answer := .next (popPair .de s)

/-- PUSH D (R201). -/
def execPushD (s : State) : Answer := .next (push16 (readPair .de s) s)

/-- POP H (R203). -/
def execPopH (s : State) : Answer := .next (popPair .hl s)

/-- XTHL: both reads come before both writes; SP is not changed (R205). -/
def execXthl (s : State) : Answer :=
  let lo := memRead s.sp s
  let hi := memRead (s.sp + 1) s
  let s := memWrite s.sp s.l s
  let s := memWrite (s.sp + 1) s.h s
  .next { s with l := lo, h := hi }

/-- PUSH H (R201). -/
def execPushH (s : State) : Answer := .next (push16 (readPair .hl s) s)

/-- POP PSW (R204). -/
def execPopPsw (s : State) : Answer := .next (writePsw (pop16 s).1 (pop16 s).2)

/-- PUSH PSW (R202). -/
def execPushPsw (s : State) : Answer := .next (push16 (readPsw s) s)

/-- SPHL (R206). -/
def execSphl (s : State) : Answer := .next { s with sp := readPair .hl s }

end Sys2Proof.Machine
end

