-- ==== Sys2Proof/Machine/System.lean ====
section
/-! DEFINITION. Input/output, interrupt control, halt and no-operation (46_io_system.md R260 to R268). -/

namespace Sys2Proof.Machine

/-- NOP (R265). -/
def execNop (s : State) : Answer := .next s

/-- HLT (R264). -/
def execHlt (s : State) : Answer := .next { s with halted := true }

/-- OUT port (R267). -/
def execOutPort (port : Byte) (s : State) : Answer := .next (ioWrite port s.a s)

/-- IN port (R266). -/
def execInPort (port : Byte) (s : State) : Answer :=
  let (v, s) := ioRead port s
  .next { s with a := v }

/-- DI (R263). -/
def execDi (s : State) : Answer := .next { s with inte := false }

/-- EI (R262). -/
def execEi (s : State) : Answer := .next { s with inte := true }

end Sys2Proof.Machine
end

