-- ==== Sys2Proof/Machine/Undefined.lean ====
section
/-! DEFINITION. The twelve undefined opcodes (30_encoding.md R96; 60_exceptions.md R271): each raises UnimplementedOpcode. -/

namespace Sys2Proof.Machine

/-- undefined opcode 0x08 (R271). -/
def execUndefined08 (s : State) : Answer := .next (raiseUnimplemented 0x08#8 s)

/-- undefined opcode 0x10 (R271). -/
def execUndefined10 (s : State) : Answer := .next (raiseUnimplemented 0x10#8 s)

/-- undefined opcode 0x18 (R271). -/
def execUndefined18 (s : State) : Answer := .next (raiseUnimplemented 0x18#8 s)

/-- undefined opcode 0x20 (R271). -/
def execUndefined20 (s : State) : Answer := .next (raiseUnimplemented 0x20#8 s)

/-- undefined opcode 0x28 (R271). -/
def execUndefined28 (s : State) : Answer := .next (raiseUnimplemented 0x28#8 s)

/-- undefined opcode 0x30 (R271). -/
def execUndefined30 (s : State) : Answer := .next (raiseUnimplemented 0x30#8 s)

/-- undefined opcode 0x38 (R271). -/
def execUndefined38 (s : State) : Answer := .next (raiseUnimplemented 0x38#8 s)

/-- undefined opcode 0xCB (R271). -/
def execUndefinedCB (s : State) : Answer := .next (raiseUnimplemented 0xCB#8 s)

/-- undefined opcode 0xD9 (R271). -/
def execUndefinedD9 (s : State) : Answer := .next (raiseUnimplemented 0xD9#8 s)

/-- undefined opcode 0xDD (R271). -/
def execUndefinedDD (s : State) : Answer := .next (raiseUnimplemented 0xDD#8 s)

/-- undefined opcode 0xED (R271). -/
def execUndefinedED (s : State) : Answer := .next (raiseUnimplemented 0xED#8 s)

/-- undefined opcode 0xFD (R271). -/
def execUndefinedFD (s : State) : Answer := .next (raiseUnimplemented 0xFD#8 s)

end Sys2Proof.Machine
end

