-- ==== Sys2Proof/Machine/Dispatch.lean ====
section
/-! DEFINITION. One arm per constructor of Instr: each calls the meaning of that instruction. -/

namespace Sys2Proof.Machine

def exec (i : Instr) (s : State) : Host.Outcome State Fault Refusal :=
  match i with
  | .nop => Sys2Proof.Machine.execNop s
  | .lxiB d16 => Sys2Proof.Machine.execLxiB d16 s
  | .staxB => Sys2Proof.Machine.execStaxB s
  | .inxB => Sys2Proof.Machine.execInxB s
  | .inrB => Sys2Proof.Machine.execInrB s
  | .dcrB => Sys2Proof.Machine.execDcrB s
  | .mviB d8 => Sys2Proof.Machine.execMviB d8 s
  | .rlc => Sys2Proof.Machine.execRlc s
  | .undefined08 => Sys2Proof.Machine.execUndefined08 s
  | .dadB => Sys2Proof.Machine.execDadB s
  | .ldaxB => Sys2Proof.Machine.execLdaxB s
  | .dcxB => Sys2Proof.Machine.execDcxB s
  | .inrC => Sys2Proof.Machine.execInrC s
  | .dcrC => Sys2Proof.Machine.execDcrC s
  | .mviC d8 => Sys2Proof.Machine.execMviC d8 s
  | .rrc => Sys2Proof.Machine.execRrc s
  | .undefined10 => Sys2Proof.Machine.execUndefined10 s
  | .lxiD d16 => Sys2Proof.Machine.execLxiD d16 s
  | .staxD => Sys2Proof.Machine.execStaxD s
  | .inxD => Sys2Proof.Machine.execInxD s
  | .inrD => Sys2Proof.Machine.execInrD s
  | .dcrD => Sys2Proof.Machine.execDcrD s
  | .mviD d8 => Sys2Proof.Machine.execMviD d8 s
  | .ral => Sys2Proof.Machine.execRal s
  | .undefined18 => Sys2Proof.Machine.execUndefined18 s
  | .dadD => Sys2Proof.Machine.execDadD s
  | .ldaxD => Sys2Proof.Machine.execLdaxD s
  | .dcxD => Sys2Proof.Machine.execDcxD s
  | .inrE => Sys2Proof.Machine.execInrE s
  | .dcrE => Sys2Proof.Machine.execDcrE s
  | .mviE d8 => Sys2Proof.Machine.execMviE d8 s
  | .rar => Sys2Proof.Machine.execRar s
  | .undefined20 => Sys2Proof.Machine.execUndefined20 s
  | .lxiH d16 => Sys2Proof.Machine.execLxiH d16 s
  | .shld a16 => Sys2Proof.Machine.execShld a16 s
  | .inxH => Sys2Proof.Machine.execInxH s
  | .inrH => Sys2Proof.Machine.execInrH s
  | .dcrH => Sys2Proof.Machine.execDcrH s
  | .mviH d8 => Sys2Proof.Machine.execMviH d8 s
  | .daa => Sys2Proof.Machine.execDaa s
  | .undefined28 => Sys2Proof.Machine.execUndefined28 s
  | .dadH => Sys2Proof.Machine.execDadH s
  | .lhld a16 => Sys2Proof.Machine.execLhld a16 s
  | .dcxH => Sys2Proof.Machine.execDcxH s
  | .inrL => Sys2Proof.Machine.execInrL s
  | .dcrL => Sys2Proof.Machine.execDcrL s
  | .mviL d8 => Sys2Proof.Machine.execMviL d8 s
  | .cma => Sys2Proof.Machine.execCma s
  | .undefined30 => Sys2Proof.Machine.execUndefined30 s
  | .lxiSp d16 => Sys2Proof.Machine.execLxiSp d16 s
  | .sta a16 => Sys2Proof.Machine.execSta a16 s
  | .inxSp => Sys2Proof.Machine.execInxSp s
  | .inrM => Sys2Proof.Machine.execInrM s
  | .dcrM => Sys2Proof.Machine.execDcrM s
  | .mviM d8 => Sys2Proof.Machine.execMviM d8 s
  | .stc => Sys2Proof.Machine.execStc s
  | .undefined38 => Sys2Proof.Machine.execUndefined38 s
  | .dadSp => Sys2Proof.Machine.execDadSp s
  | .lda a16 => Sys2Proof.Machine.execLda a16 s
  | .dcxSp => Sys2Proof.Machine.execDcxSp s
  | .inrA => Sys2Proof.Machine.execInrA s
  | .dcrA => Sys2Proof.Machine.execDcrA s
  | .mviA d8 => Sys2Proof.Machine.execMviA d8 s
  | .cmc => Sys2Proof.Machine.execCmc s
  | .movBB => Sys2Proof.Machine.execMovBB s
  | .movBC => Sys2Proof.Machine.execMovBC s
  | .movBD => Sys2Proof.Machine.execMovBD s
  | .movBE => Sys2Proof.Machine.execMovBE s
  | .movBH => Sys2Proof.Machine.execMovBH s
  | .movBL => Sys2Proof.Machine.execMovBL s
  | .movBM => Sys2Proof.Machine.execMovBM s
  | .movBA => Sys2Proof.Machine.execMovBA s
  | .movCB => Sys2Proof.Machine.execMovCB s
  | .movCC => Sys2Proof.Machine.execMovCC s
  | .movCD => Sys2Proof.Machine.execMovCD s
  | .movCE => Sys2Proof.Machine.execMovCE s
  | .movCH => Sys2Proof.Machine.execMovCH s
  | .movCL => Sys2Proof.Machine.execMovCL s
  | .movCM => Sys2Proof.Machine.execMovCM s
  | .movCA => Sys2Proof.Machine.execMovCA s
  | .movDB => Sys2Proof.Machine.execMovDB s
  | .movDC => Sys2Proof.Machine.execMovDC s
  | .movDD => Sys2Proof.Machine.execMovDD s
  | .movDE => Sys2Proof.Machine.execMovDE s
  | .movDH => Sys2Proof.Machine.execMovDH s
  | .movDL => Sys2Proof.Machine.execMovDL s
  | .movDM => Sys2Proof.Machine.execMovDM s
  | .movDA => Sys2Proof.Machine.execMovDA s
  | .movEB => Sys2Proof.Machine.execMovEB s
  | .movEC => Sys2Proof.Machine.execMovEC s
  | .movED => Sys2Proof.Machine.execMovED s
  | .movEE => Sys2Proof.Machine.execMovEE s
  | .movEH => Sys2Proof.Machine.execMovEH s
  | .movEL => Sys2Proof.Machine.execMovEL s
  | .movEM => Sys2Proof.Machine.execMovEM s
  | .movEA => Sys2Proof.Machine.execMovEA s
  | .movHB => Sys2Proof.Machine.execMovHB s
  | .movHC => Sys2Proof.Machine.execMovHC s
  | .movHD => Sys2Proof.Machine.execMovHD s
  | .movHE => Sys2Proof.Machine.execMovHE s
  | .movHH => Sys2Proof.Machine.execMovHH s
  | .movHL => Sys2Proof.Machine.execMovHL s
  | .movHM => Sys2Proof.Machine.execMovHM s
  | .movHA => Sys2Proof.Machine.execMovHA s
  | .movLB => Sys2Proof.Machine.execMovLB s
  | .movLC => Sys2Proof.Machine.execMovLC s
  | .movLD => Sys2Proof.Machine.execMovLD s
  | .movLE => Sys2Proof.Machine.execMovLE s
  | .movLH => Sys2Proof.Machine.execMovLH s
  | .movLL => Sys2Proof.Machine.execMovLL s
  | .movLM => Sys2Proof.Machine.execMovLM s
  | .movLA => Sys2Proof.Machine.execMovLA s
  | .movMB => Sys2Proof.Machine.execMovMB s
  | .movMC => Sys2Proof.Machine.execMovMC s
  | .movMD => Sys2Proof.Machine.execMovMD s
  | .movME => Sys2Proof.Machine.execMovME s
  | .movMH => Sys2Proof.Machine.execMovMH s
  | .movML => Sys2Proof.Machine.execMovML s
  | .hlt => Sys2Proof.Machine.execHlt s
  | .movMA => Sys2Proof.Machine.execMovMA s
  | .movAB => Sys2Proof.Machine.execMovAB s
  | .movAC => Sys2Proof.Machine.execMovAC s
  | .movAD => Sys2Proof.Machine.execMovAD s
  | .movAE => Sys2Proof.Machine.execMovAE s
  | .movAH => Sys2Proof.Machine.execMovAH s
  | .movAL => Sys2Proof.Machine.execMovAL s
  | .movAM => Sys2Proof.Machine.execMovAM s
  | .movAA => Sys2Proof.Machine.execMovAA s
  | .addB => Sys2Proof.Machine.execAddB s
  | .addC => Sys2Proof.Machine.execAddC s
  | .addD => Sys2Proof.Machine.execAddD s
  | .addE => Sys2Proof.Machine.execAddE s
  | .addH => Sys2Proof.Machine.execAddH s
  | .addL => Sys2Proof.Machine.execAddL s
  | .addM => Sys2Proof.Machine.execAddM s
  | .addA => Sys2Proof.Machine.execAddA s
  | .adcB => Sys2Proof.Machine.execAdcB s
  | .adcC => Sys2Proof.Machine.execAdcC s
  | .adcD => Sys2Proof.Machine.execAdcD s
  | .adcE => Sys2Proof.Machine.execAdcE s
  | .adcH => Sys2Proof.Machine.execAdcH s
  | .adcL => Sys2Proof.Machine.execAdcL s
  | .adcM => Sys2Proof.Machine.execAdcM s
  | .adcA => Sys2Proof.Machine.execAdcA s
  | .subB => Sys2Proof.Machine.execSubB s
  | .subC => Sys2Proof.Machine.execSubC s
  | .subD => Sys2Proof.Machine.execSubD s
  | .subE => Sys2Proof.Machine.execSubE s
  | .subH => Sys2Proof.Machine.execSubH s
  | .subL => Sys2Proof.Machine.execSubL s
  | .subM => Sys2Proof.Machine.execSubM s
  | .subA => Sys2Proof.Machine.execSubA s
  | .sbbB => Sys2Proof.Machine.execSbbB s
  | .sbbC => Sys2Proof.Machine.execSbbC s
  | .sbbD => Sys2Proof.Machine.execSbbD s
  | .sbbE => Sys2Proof.Machine.execSbbE s
  | .sbbH => Sys2Proof.Machine.execSbbH s
  | .sbbL => Sys2Proof.Machine.execSbbL s
  | .sbbM => Sys2Proof.Machine.execSbbM s
  | .sbbA => Sys2Proof.Machine.execSbbA s
  | .anaB => Sys2Proof.Machine.execAnaB s
  | .anaC => Sys2Proof.Machine.execAnaC s
  | .anaD => Sys2Proof.Machine.execAnaD s
  | .anaE => Sys2Proof.Machine.execAnaE s
  | .anaH => Sys2Proof.Machine.execAnaH s
  | .anaL => Sys2Proof.Machine.execAnaL s
  | .anaM => Sys2Proof.Machine.execAnaM s
  | .anaA => Sys2Proof.Machine.execAnaA s
  | .xraB => Sys2Proof.Machine.execXraB s
  | .xraC => Sys2Proof.Machine.execXraC s
  | .xraD => Sys2Proof.Machine.execXraD s
  | .xraE => Sys2Proof.Machine.execXraE s
  | .xraH => Sys2Proof.Machine.execXraH s
  | .xraL => Sys2Proof.Machine.execXraL s
  | .xraM => Sys2Proof.Machine.execXraM s
  | .xraA => Sys2Proof.Machine.execXraA s
  | .oraB => Sys2Proof.Machine.execOraB s
  | .oraC => Sys2Proof.Machine.execOraC s
  | .oraD => Sys2Proof.Machine.execOraD s
  | .oraE => Sys2Proof.Machine.execOraE s
  | .oraH => Sys2Proof.Machine.execOraH s
  | .oraL => Sys2Proof.Machine.execOraL s
  | .oraM => Sys2Proof.Machine.execOraM s
  | .oraA => Sys2Proof.Machine.execOraA s
  | .cmpB => Sys2Proof.Machine.execCmpB s
  | .cmpC => Sys2Proof.Machine.execCmpC s
  | .cmpD => Sys2Proof.Machine.execCmpD s
  | .cmpE => Sys2Proof.Machine.execCmpE s
  | .cmpH => Sys2Proof.Machine.execCmpH s
  | .cmpL => Sys2Proof.Machine.execCmpL s
  | .cmpM => Sys2Proof.Machine.execCmpM s
  | .cmpA => Sys2Proof.Machine.execCmpA s
  | .rnz => Sys2Proof.Machine.execRnz s
  | .popB => Sys2Proof.Machine.execPopB s
  | .jnz a16 => Sys2Proof.Machine.execJnz a16 s
  | .jmp a16 => Sys2Proof.Machine.execJmp a16 s
  | .cnz a16 => Sys2Proof.Machine.execCnz a16 s
  | .pushB => Sys2Proof.Machine.execPushB s
  | .adi d8 => Sys2Proof.Machine.execAdi d8 s
  | .rst0 => Sys2Proof.Machine.execRst0 s
  | .rz => Sys2Proof.Machine.execRz s
  | .ret => Sys2Proof.Machine.execRet s
  | .jz a16 => Sys2Proof.Machine.execJz a16 s
  | .undefinedCB => Sys2Proof.Machine.execUndefinedCB s
  | .cz a16 => Sys2Proof.Machine.execCz a16 s
  | .call a16 => Sys2Proof.Machine.execCall a16 s
  | .aci d8 => Sys2Proof.Machine.execAci d8 s
  | .rst1 => Sys2Proof.Machine.execRst1 s
  | .rnc => Sys2Proof.Machine.execRnc s
  | .popD => Sys2Proof.Machine.execPopD s
  | .jnc a16 => Sys2Proof.Machine.execJnc a16 s
  | .outPort port => Sys2Proof.Machine.execOutPort port s
  | .cnc a16 => Sys2Proof.Machine.execCnc a16 s
  | .pushD => Sys2Proof.Machine.execPushD s
  | .sui d8 => Sys2Proof.Machine.execSui d8 s
  | .rst2 => Sys2Proof.Machine.execRst2 s
  | .rc => Sys2Proof.Machine.execRc s
  | .undefinedD9 => Sys2Proof.Machine.execUndefinedD9 s
  | .jc a16 => Sys2Proof.Machine.execJc a16 s
  | .inPort port => Sys2Proof.Machine.execInPort port s
  | .cc a16 => Sys2Proof.Machine.execCc a16 s
  | .undefinedDD => Sys2Proof.Machine.execUndefinedDD s
  | .sbi d8 => Sys2Proof.Machine.execSbi d8 s
  | .rst3 => Sys2Proof.Machine.execRst3 s
  | .rpo => Sys2Proof.Machine.execRpo s
  | .popH => Sys2Proof.Machine.execPopH s
  | .jpo a16 => Sys2Proof.Machine.execJpo a16 s
  | .xthl => Sys2Proof.Machine.execXthl s
  | .cpo a16 => Sys2Proof.Machine.execCpo a16 s
  | .pushH => Sys2Proof.Machine.execPushH s
  | .ani d8 => Sys2Proof.Machine.execAni d8 s
  | .rst4 => Sys2Proof.Machine.execRst4 s
  | .rpe => Sys2Proof.Machine.execRpe s
  | .pchl => Sys2Proof.Machine.execPchl s
  | .jpe a16 => Sys2Proof.Machine.execJpe a16 s
  | .xchg => Sys2Proof.Machine.execXchg s
  | .cpe a16 => Sys2Proof.Machine.execCpe a16 s
  | .undefinedED => Sys2Proof.Machine.execUndefinedED s
  | .xri d8 => Sys2Proof.Machine.execXri d8 s
  | .rst5 => Sys2Proof.Machine.execRst5 s
  | .rp => Sys2Proof.Machine.execRp s
  | .popPsw => Sys2Proof.Machine.execPopPsw s
  | .jp a16 => Sys2Proof.Machine.execJp a16 s
  | .di => Sys2Proof.Machine.execDi s
  | .cp a16 => Sys2Proof.Machine.execCp a16 s
  | .pushPsw => Sys2Proof.Machine.execPushPsw s
  | .ori d8 => Sys2Proof.Machine.execOri d8 s
  | .rst6 => Sys2Proof.Machine.execRst6 s
  | .rm => Sys2Proof.Machine.execRm s
  | .sphl => Sys2Proof.Machine.execSphl s
  | .jm a16 => Sys2Proof.Machine.execJm a16 s
  | .ei => Sys2Proof.Machine.execEi s
  | .cm a16 => Sys2Proof.Machine.execCm a16 s
  | .undefinedFD => Sys2Proof.Machine.execUndefinedFD s
  | .cpi d8 => Sys2Proof.Machine.execCpi d8 s
  | .rst7 => Sys2Proof.Machine.execRst7 s

end Sys2Proof.Machine
end

