-- ==== Sys2Proof/Machine/Step.lean ====
section
/-! DEFINITION. The step, the only transition of the block (10_state.md R45), and the placing of one instruction where
the step fetches it. -/

namespace Sys2Proof.Machine

/-- One step. After a fault and after a halt a step changes nothing (R36, R37, R45); otherwise the instruction at PC is
fetched whole and executed. The step's result Continued, Halted or Failed is `stepResult` of the state it answers (log
entry 1). -/
def step (s : State) : Host.Outcome State Fault Refusal :=
  match s.fault, s.halted with
  | some _, _ => .next s
  | none, true => .next s
  | none, false =>
    let (i, s) := fetchInstr s
    exec i s

/-- Store a list of bytes at an address and the addresses after it, modulo 65,536. -/
def storeBytes : Word → List Byte → State → State
  | _, [], s => s
  | addr, v :: bytes, s => storeBytes (addr + 1) bytes (memWrite addr v s)

/-- The state with the instruction whose bits are `w` stored at PC, and the two latches that keep a step from fetching
released (log entry 8). -/
def State.withFetchWord (s : State) (nbits w : Nat) : State :=
  storeBytes s.pc (tableBytes nbits w) { s with halted := false, fault := none }

end Sys2Proof.Machine
end

