-- ==== Sys2Proof/Machine/Effects.lean ====
section
/-! DEFINITION. What each instruction may write, as tables from the rules' own lists: registers, flags (10_state.md
R30), SP (R28), PC (R27), INTE (R32) and memory (20_memory.md R61). The meanings do not use these tables; the
statements about all instructions do. -/

namespace Sys2Proof.Machine

/-- The 8-bit registers the rule of an instruction writes. -/
def writtenRegs : Instr → List Reg
  | .xchg => [.d, .e, .h, .l]
  | .lxiB _ | .inxB | .dcxB | .popB => [.b, .c]
  | .lxiD _ | .inxD | .dcxD | .popD => [.d, .e]
  | .dadB | .dadD | .lxiH _ | .inxH | .dadH | .lhld _
  | .dcxH | .dadSp | .popH | .xthl => [.h, .l]
  | .inrB | .dcrB | .mviB _ | .movBB | .movBC | .movBD
  | .movBE | .movBH | .movBL | .movBM | .movBA => [.b]
  | .inrC | .dcrC | .mviC _ | .movCB | .movCC | .movCD
  | .movCE | .movCH | .movCL | .movCM | .movCA => [.c]
  | .inrD | .dcrD | .mviD _ | .movDB | .movDC | .movDD
  | .movDE | .movDH | .movDL | .movDM | .movDA => [.d]
  | .inrE | .dcrE | .mviE _ | .movEB | .movEC | .movED
  | .movEE | .movEH | .movEL | .movEM | .movEA => [.e]
  | .inrH | .dcrH | .mviH _ | .movHB | .movHC | .movHD
  | .movHE | .movHH | .movHL | .movHM | .movHA => [.h]
  | .inrL | .dcrL | .mviL _ | .movLB | .movLC | .movLD
  | .movLE | .movLH | .movLL | .movLM | .movLA => [.l]
  | .rlc | .ldaxB | .rrc | .ral | .ldaxD | .rar
  | .daa | .cma | .lda _ | .inrA | .dcrA | .mviA _
  | .movAB | .movAC | .movAD | .movAE | .movAH | .movAL
  | .movAM | .movAA | .addB | .addC | .addD | .addE
  | .addH | .addL | .addM | .addA | .adcB | .adcC
  | .adcD | .adcE | .adcH | .adcL | .adcM | .adcA
  | .subB | .subC | .subD | .subE | .subH | .subL
  | .subM | .subA | .sbbB | .sbbC | .sbbD | .sbbE
  | .sbbH | .sbbL | .sbbM | .sbbA | .anaB | .anaC
  | .anaD | .anaE | .anaH | .anaL | .anaM | .anaA
  | .xraB | .xraC | .xraD | .xraE | .xraH | .xraL
  | .xraM | .xraA | .oraB | .oraC | .oraD | .oraE
  | .oraH | .oraL | .oraM | .oraA | .adi _ | .aci _
  | .sui _ | .inPort _ | .sbi _ | .ani _ | .xri _ | .popPsw
  | .ori _ => [.a]
  | .nop | .staxB | .undefined08 | .undefined10 | .staxD | .undefined18
  | .undefined20 | .shld _ | .undefined28 | .undefined30 | .lxiSp _ | .sta _
  | .inxSp | .inrM | .dcrM | .mviM _ | .stc | .undefined38
  | .dcxSp | .cmc | .movMB | .movMC | .movMD | .movME
  | .movMH | .movML | .hlt | .movMA | .cmpB | .cmpC
  | .cmpD | .cmpE | .cmpH | .cmpL | .cmpM | .cmpA
  | .rnz | .jnz _ | .jmp _ | .cnz _ | .pushB | .rst0
  | .rz | .ret | .jz _ | .undefinedCB | .cz _ | .call _
  | .rst1 | .rnc | .jnc _ | .outPort _ | .cnc _ | .pushD
  | .rst2 | .rc | .undefinedD9 | .jc _ | .cc _ | .undefinedDD
  | .rst3 | .rpo | .jpo _ | .cpo _ | .pushH | .rst4
  | .rpe | .pchl | .jpe _ | .cpe _ | .undefinedED | .rst5
  | .rp | .jp _ | .di | .cp _ | .pushPsw | .rst6
  | .rm | .sphl | .jm _ | .ei | .cm _ | .undefinedFD
  | .cpi _ | .rst7 => []

/-- The flags the rule of an instruction writes or forces (R30). -/
def writtenFlags : Instr → List FlagName
  | .rlc | .dadB | .rrc | .ral | .dadD | .rar
  | .dadH | .stc | .dadSp | .cmc => [.cy]
  | .inrB | .dcrB | .inrC | .dcrC | .inrD | .dcrD
  | .inrE | .dcrE | .inrH | .dcrH | .inrL | .dcrL
  | .inrM | .dcrM | .inrA | .dcrA => [.z, .s, .p]
  | .daa | .addB | .addC | .addD | .addE | .addH
  | .addL | .addM | .addA | .adcB | .adcC | .adcD
  | .adcE | .adcH | .adcL | .adcM | .adcA | .subB
  | .subC | .subD | .subE | .subH | .subL | .subM
  | .subA | .sbbB | .sbbC | .sbbD | .sbbE | .sbbH
  | .sbbL | .sbbM | .sbbA | .anaB | .anaC | .anaD
  | .anaE | .anaH | .anaL | .anaM | .anaA | .xraB
  | .xraC | .xraD | .xraE | .xraH | .xraL | .xraM
  | .xraA | .oraB | .oraC | .oraD | .oraE | .oraH
  | .oraL | .oraM | .oraA | .cmpB | .cmpC | .cmpD
  | .cmpE | .cmpH | .cmpL | .cmpM | .cmpA | .adi _
  | .aci _ | .sui _ | .sbi _ | .ani _ | .xri _ | .popPsw
  | .ori _ | .cpi _ => [.z, .s, .p, .cy, .ac]
  | .nop | .lxiB _ | .staxB | .inxB | .mviB _ | .undefined08
  | .ldaxB | .dcxB | .mviC _ | .undefined10 | .lxiD _ | .staxD
  | .inxD | .mviD _ | .undefined18 | .ldaxD | .dcxD | .mviE _
  | .undefined20 | .lxiH _ | .shld _ | .inxH | .mviH _ | .undefined28
  | .lhld _ | .dcxH | .mviL _ | .cma | .undefined30 | .lxiSp _
  | .sta _ | .inxSp | .mviM _ | .undefined38 | .lda _ | .dcxSp
  | .mviA _ | .movBB | .movBC | .movBD | .movBE | .movBH
  | .movBL | .movBM | .movBA | .movCB | .movCC | .movCD
  | .movCE | .movCH | .movCL | .movCM | .movCA | .movDB
  | .movDC | .movDD | .movDE | .movDH | .movDL | .movDM
  | .movDA | .movEB | .movEC | .movED | .movEE | .movEH
  | .movEL | .movEM | .movEA | .movHB | .movHC | .movHD
  | .movHE | .movHH | .movHL | .movHM | .movHA | .movLB
  | .movLC | .movLD | .movLE | .movLH | .movLL | .movLM
  | .movLA | .movMB | .movMC | .movMD | .movME | .movMH
  | .movML | .hlt | .movMA | .movAB | .movAC | .movAD
  | .movAE | .movAH | .movAL | .movAM | .movAA | .rnz
  | .popB | .jnz _ | .jmp _ | .cnz _ | .pushB | .rst0
  | .rz | .ret | .jz _ | .undefinedCB | .cz _ | .call _
  | .rst1 | .rnc | .popD | .jnc _ | .outPort _ | .cnc _
  | .pushD | .rst2 | .rc | .undefinedD9 | .jc _ | .inPort _
  | .cc _ | .undefinedDD | .rst3 | .rpo | .popH | .jpo _
  | .xthl | .cpo _ | .pushH | .rst4 | .rpe | .pchl
  | .jpe _ | .xchg | .cpe _ | .undefinedED | .rst5 | .rp
  | .jp _ | .di | .cp _ | .pushPsw | .rst6 | .rm
  | .sphl | .jm _ | .ei | .cm _ | .undefinedFD | .rst7 => []

/-- SP is written by LXI SP, INX SP, DCX SP, SPHL and every push and pop (R28). -/
def writesSp : Instr → Bool
  | .lxiSp _ | .inxSp | .dcxSp | .rnz | .popB | .cnz _
  | .pushB | .rst0 | .rz | .ret | .cz _ | .call _
  | .rst1 | .rnc | .popD | .cnc _ | .pushD | .rst2
  | .rc | .cc _ | .rst3 | .rpo | .popH | .cpo _
  | .pushH | .rst4 | .rpe | .cpe _ | .rst5 | .rp
  | .popPsw | .cp _ | .pushPsw | .rst6 | .rm | .sphl
  | .cm _ | .rst7 => true
  | .nop | .lxiB _ | .staxB | .inxB | .inrB | .dcrB
  | .mviB _ | .rlc | .undefined08 | .dadB | .ldaxB | .dcxB
  | .inrC | .dcrC | .mviC _ | .rrc | .undefined10 | .lxiD _
  | .staxD | .inxD | .inrD | .dcrD | .mviD _ | .ral
  | .undefined18 | .dadD | .ldaxD | .dcxD | .inrE | .dcrE
  | .mviE _ | .rar | .undefined20 | .lxiH _ | .shld _ | .inxH
  | .inrH | .dcrH | .mviH _ | .daa | .undefined28 | .dadH
  | .lhld _ | .dcxH | .inrL | .dcrL | .mviL _ | .cma
  | .undefined30 | .sta _ | .inrM | .dcrM | .mviM _ | .stc
  | .undefined38 | .dadSp | .lda _ | .inrA | .dcrA | .mviA _
  | .cmc | .movBB | .movBC | .movBD | .movBE | .movBH
  | .movBL | .movBM | .movBA | .movCB | .movCC | .movCD
  | .movCE | .movCH | .movCL | .movCM | .movCA | .movDB
  | .movDC | .movDD | .movDE | .movDH | .movDL | .movDM
  | .movDA | .movEB | .movEC | .movED | .movEE | .movEH
  | .movEL | .movEM | .movEA | .movHB | .movHC | .movHD
  | .movHE | .movHH | .movHL | .movHM | .movHA | .movLB
  | .movLC | .movLD | .movLE | .movLH | .movLL | .movLM
  | .movLA | .movMB | .movMC | .movMD | .movME | .movMH
  | .movML | .hlt | .movMA | .movAB | .movAC | .movAD
  | .movAE | .movAH | .movAL | .movAM | .movAA | .addB
  | .addC | .addD | .addE | .addH | .addL | .addM
  | .addA | .adcB | .adcC | .adcD | .adcE | .adcH
  | .adcL | .adcM | .adcA | .subB | .subC | .subD
  | .subE | .subH | .subL | .subM | .subA | .sbbB
  | .sbbC | .sbbD | .sbbE | .sbbH | .sbbL | .sbbM
  | .sbbA | .anaB | .anaC | .anaD | .anaE | .anaH
  | .anaL | .anaM | .anaA | .xraB | .xraC | .xraD
  | .xraE | .xraH | .xraL | .xraM | .xraA | .oraB
  | .oraC | .oraD | .oraE | .oraH | .oraL | .oraM
  | .oraA | .cmpB | .cmpC | .cmpD | .cmpE | .cmpH
  | .cmpL | .cmpM | .cmpA | .jnz _ | .jmp _ | .adi _
  | .jz _ | .undefinedCB | .aci _ | .jnc _ | .outPort _ | .sui _
  | .undefinedD9 | .jc _ | .inPort _ | .undefinedDD | .sbi _ | .jpo _
  | .xthl | .ani _ | .pchl | .jpe _ | .xchg | .undefinedED
  | .xri _ | .jp _ | .di | .ori _ | .jm _ | .ei
  | .undefinedFD | .cpi _ => false

/-- PC is written, other than by fetching, by JMP and Jcc, CALL and Ccc, RET and Rcc, RST and PCHL, and is put back by the
twelve undefined opcodes (R27). -/
def writesPc : Instr → Bool
  | .undefined08 | .undefined10 | .undefined18 | .undefined20 | .undefined28 | .undefined30
  | .undefined38 | .rnz | .jnz _ | .jmp _ | .cnz _ | .rst0
  | .rz | .ret | .jz _ | .undefinedCB | .cz _ | .call _
  | .rst1 | .rnc | .jnc _ | .cnc _ | .rst2 | .rc
  | .undefinedD9 | .jc _ | .cc _ | .undefinedDD | .rst3 | .rpo
  | .jpo _ | .cpo _ | .rst4 | .rpe | .pchl | .jpe _
  | .cpe _ | .undefinedED | .rst5 | .rp | .jp _ | .cp _
  | .rst6 | .rm | .jm _ | .cm _ | .undefinedFD | .rst7 => true
  | .nop | .lxiB _ | .staxB | .inxB | .inrB | .dcrB
  | .mviB _ | .rlc | .dadB | .ldaxB | .dcxB | .inrC
  | .dcrC | .mviC _ | .rrc | .lxiD _ | .staxD | .inxD
  | .inrD | .dcrD | .mviD _ | .ral | .dadD | .ldaxD
  | .dcxD | .inrE | .dcrE | .mviE _ | .rar | .lxiH _
  | .shld _ | .inxH | .inrH | .dcrH | .mviH _ | .daa
  | .dadH | .lhld _ | .dcxH | .inrL | .dcrL | .mviL _
  | .cma | .lxiSp _ | .sta _ | .inxSp | .inrM | .dcrM
  | .mviM _ | .stc | .dadSp | .lda _ | .dcxSp | .inrA
  | .dcrA | .mviA _ | .cmc | .movBB | .movBC | .movBD
  | .movBE | .movBH | .movBL | .movBM | .movBA | .movCB
  | .movCC | .movCD | .movCE | .movCH | .movCL | .movCM
  | .movCA | .movDB | .movDC | .movDD | .movDE | .movDH
  | .movDL | .movDM | .movDA | .movEB | .movEC | .movED
  | .movEE | .movEH | .movEL | .movEM | .movEA | .movHB
  | .movHC | .movHD | .movHE | .movHH | .movHL | .movHM
  | .movHA | .movLB | .movLC | .movLD | .movLE | .movLH
  | .movLL | .movLM | .movLA | .movMB | .movMC | .movMD
  | .movME | .movMH | .movML | .hlt | .movMA | .movAB
  | .movAC | .movAD | .movAE | .movAH | .movAL | .movAM
  | .movAA | .addB | .addC | .addD | .addE | .addH
  | .addL | .addM | .addA | .adcB | .adcC | .adcD
  | .adcE | .adcH | .adcL | .adcM | .adcA | .subB
  | .subC | .subD | .subE | .subH | .subL | .subM
  | .subA | .sbbB | .sbbC | .sbbD | .sbbE | .sbbH
  | .sbbL | .sbbM | .sbbA | .anaB | .anaC | .anaD
  | .anaE | .anaH | .anaL | .anaM | .anaA | .xraB
  | .xraC | .xraD | .xraE | .xraH | .xraL | .xraM
  | .xraA | .oraB | .oraC | .oraD | .oraE | .oraH
  | .oraL | .oraM | .oraA | .cmpB | .cmpC | .cmpD
  | .cmpE | .cmpH | .cmpL | .cmpM | .cmpA | .popB
  | .pushB | .adi _ | .aci _ | .popD | .outPort _ | .pushD
  | .sui _ | .inPort _ | .sbi _ | .popH | .xthl | .pushH
  | .ani _ | .xchg | .xri _ | .popPsw | .di | .pushPsw
  | .ori _ | .sphl | .ei | .cpi _ => false

/-- The two addresses a push writes (20_memory.md R58). -/
def pushAddrs (s : State) : List Word := [s.sp - 1, s.sp - 2]

/-- The addresses an instruction stores to, in the state its meaning starts from (R61). -/
def storedAddrs (i : Instr) (s : State) : List Word :=
  match i with
  | .shld a16 => [a16, a16 + 1]
  | .sta a16 => [a16]
  | .staxB => [readPair .bc s]
  | .staxD => [readPair .de s]
  | .xthl => [s.sp, s.sp + 1]
  | .cc _ => if condHolds .c s.flags then pushAddrs s else []
  | .cm _ => if condHolds .m s.flags then pushAddrs s else []
  | .cnc _ => if condHolds .nc s.flags then pushAddrs s else []
  | .cnz _ => if condHolds .nz s.flags then pushAddrs s else []
  | .cp _ => if condHolds .p s.flags then pushAddrs s else []
  | .cpe _ => if condHolds .pe s.flags then pushAddrs s else []
  | .cpo _ => if condHolds .po s.flags then pushAddrs s else []
  | .cz _ => if condHolds .z s.flags then pushAddrs s else []
  | .inrM | .dcrM | .mviM _ | .movMB | .movMC | .movMD
  | .movME | .movMH | .movML | .movMA => [readPair .hl s]
  | .pushB | .rst0 | .call _ | .rst1 | .pushD | .rst2
  | .rst3 | .pushH | .rst4 | .rst5 | .pushPsw | .rst6
  | .rst7 => pushAddrs s
  | .nop | .lxiB _ | .inxB | .inrB | .dcrB | .mviB _
  | .rlc | .undefined08 | .dadB | .ldaxB | .dcxB | .inrC
  | .dcrC | .mviC _ | .rrc | .undefined10 | .lxiD _ | .inxD
  | .inrD | .dcrD | .mviD _ | .ral | .undefined18 | .dadD
  | .ldaxD | .dcxD | .inrE | .dcrE | .mviE _ | .rar
  | .undefined20 | .lxiH _ | .inxH | .inrH | .dcrH | .mviH _
  | .daa | .undefined28 | .dadH | .lhld _ | .dcxH | .inrL
  | .dcrL | .mviL _ | .cma | .undefined30 | .lxiSp _ | .inxSp
  | .stc | .undefined38 | .dadSp | .lda _ | .dcxSp | .inrA
  | .dcrA | .mviA _ | .cmc | .movBB | .movBC | .movBD
  | .movBE | .movBH | .movBL | .movBM | .movBA | .movCB
  | .movCC | .movCD | .movCE | .movCH | .movCL | .movCM
  | .movCA | .movDB | .movDC | .movDD | .movDE | .movDH
  | .movDL | .movDM | .movDA | .movEB | .movEC | .movED
  | .movEE | .movEH | .movEL | .movEM | .movEA | .movHB
  | .movHC | .movHD | .movHE | .movHH | .movHL | .movHM
  | .movHA | .movLB | .movLC | .movLD | .movLE | .movLH
  | .movLL | .movLM | .movLA | .hlt | .movAB | .movAC
  | .movAD | .movAE | .movAH | .movAL | .movAM | .movAA
  | .addB | .addC | .addD | .addE | .addH | .addL
  | .addM | .addA | .adcB | .adcC | .adcD | .adcE
  | .adcH | .adcL | .adcM | .adcA | .subB | .subC
  | .subD | .subE | .subH | .subL | .subM | .subA
  | .sbbB | .sbbC | .sbbD | .sbbE | .sbbH | .sbbL
  | .sbbM | .sbbA | .anaB | .anaC | .anaD | .anaE
  | .anaH | .anaL | .anaM | .anaA | .xraB | .xraC
  | .xraD | .xraE | .xraH | .xraL | .xraM | .xraA
  | .oraB | .oraC | .oraD | .oraE | .oraH | .oraL
  | .oraM | .oraA | .cmpB | .cmpC | .cmpD | .cmpE
  | .cmpH | .cmpL | .cmpM | .cmpA | .rnz | .popB
  | .jnz _ | .jmp _ | .adi _ | .rz | .ret | .jz _
  | .undefinedCB | .aci _ | .rnc | .popD | .jnc _ | .outPort _
  | .sui _ | .rc | .undefinedD9 | .jc _ | .inPort _ | .undefinedDD
  | .sbi _ | .rpo | .popH | .jpo _ | .ani _ | .rpe
  | .pchl | .jpe _ | .xchg | .undefinedED | .xri _ | .rp
  | .popPsw | .jp _ | .di | .ori _ | .rm | .sphl
  | .jm _ | .ei | .undefinedFD | .cpi _ => []

end Sys2Proof.Machine
end

