-- ==== Sys2Proof/Machine/Forms.lean ====
section
/-! DEFINITION. The instructions of each family by their operand names: the rows of the opcode table that share one
pattern of 30_encoding.md R82 to R89. The statements speak of a family through these tables. -/

namespace Sys2Proof.Machine

/-- `01dddsss`: MOV ddd,sss (R87). The code pair M,M is HLT and no MOV (R264). -/
def movInstr : Operand → Operand → Instr
  | .reg .b, .reg .b => .movBB
  | .reg .b, .reg .c => .movBC
  | .reg .b, .reg .d => .movBD
  | .reg .b, .reg .e => .movBE
  | .reg .b, .reg .h => .movBH
  | .reg .b, .reg .l => .movBL
  | .reg .b, .m => .movBM
  | .reg .b, .reg .a => .movBA
  | .reg .c, .reg .b => .movCB
  | .reg .c, .reg .c => .movCC
  | .reg .c, .reg .d => .movCD
  | .reg .c, .reg .e => .movCE
  | .reg .c, .reg .h => .movCH
  | .reg .c, .reg .l => .movCL
  | .reg .c, .m => .movCM
  | .reg .c, .reg .a => .movCA
  | .reg .d, .reg .b => .movDB
  | .reg .d, .reg .c => .movDC
  | .reg .d, .reg .d => .movDD
  | .reg .d, .reg .e => .movDE
  | .reg .d, .reg .h => .movDH
  | .reg .d, .reg .l => .movDL
  | .reg .d, .m => .movDM
  | .reg .d, .reg .a => .movDA
  | .reg .e, .reg .b => .movEB
  | .reg .e, .reg .c => .movEC
  | .reg .e, .reg .d => .movED
  | .reg .e, .reg .e => .movEE
  | .reg .e, .reg .h => .movEH
  | .reg .e, .reg .l => .movEL
  | .reg .e, .m => .movEM
  | .reg .e, .reg .a => .movEA
  | .reg .h, .reg .b => .movHB
  | .reg .h, .reg .c => .movHC
  | .reg .h, .reg .d => .movHD
  | .reg .h, .reg .e => .movHE
  | .reg .h, .reg .h => .movHH
  | .reg .h, .reg .l => .movHL
  | .reg .h, .m => .movHM
  | .reg .h, .reg .a => .movHA
  | .reg .l, .reg .b => .movLB
  | .reg .l, .reg .c => .movLC
  | .reg .l, .reg .d => .movLD
  | .reg .l, .reg .e => .movLE
  | .reg .l, .reg .h => .movLH
  | .reg .l, .reg .l => .movLL
  | .reg .l, .m => .movLM
  | .reg .l, .reg .a => .movLA
  | .m, .reg .b => .movMB
  | .m, .reg .c => .movMC
  | .m, .reg .d => .movMD
  | .m, .reg .e => .movME
  | .m, .reg .h => .movMH
  | .m, .reg .l => .movML
  | .m, .m => .hlt
  | .m, .reg .a => .movMA
  | .reg .a, .reg .b => .movAB
  | .reg .a, .reg .c => .movAC
  | .reg .a, .reg .d => .movAD
  | .reg .a, .reg .e => .movAE
  | .reg .a, .reg .h => .movAH
  | .reg .a, .reg .l => .movAL
  | .reg .a, .m => .movAM
  | .reg .a, .reg .a => .movAA

/-- `00ddd110` d8: MVI (R86). -/
def mviInstr : Operand → Byte → Instr
  | .reg .b, d8 => .mviB d8
  | .reg .c, d8 => .mviC d8
  | .reg .d, d8 => .mviD d8
  | .reg .e, d8 => .mviE d8
  | .reg .h, d8 => .mviH d8
  | .reg .l, d8 => .mviL d8
  | .m, d8 => .mviM d8
  | .reg .a, d8 => .mviA d8

/-- `00ddd100`: INR (R86). -/
def inrInstr : Operand → Instr
  | .reg .b => .inrB
  | .reg .c => .inrC
  | .reg .d => .inrD
  | .reg .e => .inrE
  | .reg .h => .inrH
  | .reg .l => .inrL
  | .m => .inrM
  | .reg .a => .inrA

/-- `00ddd101`: DCR (R86). -/
def dcrInstr : Operand → Instr
  | .reg .b => .dcrB
  | .reg .c => .dcrC
  | .reg .d => .dcrD
  | .reg .e => .dcrE
  | .reg .h => .dcrH
  | .reg .l => .dcrL
  | .m => .dcrM
  | .reg .a => .dcrA

/-- `10ooosss`: an ALU operation with an operand (R88). -/
def aluInstr : AluOp → Operand → Instr
  | .add, .reg .b => .addB
  | .add, .reg .c => .addC
  | .add, .reg .d => .addD
  | .add, .reg .e => .addE
  | .add, .reg .h => .addH
  | .add, .reg .l => .addL
  | .add, .m => .addM
  | .add, .reg .a => .addA
  | .adc, .reg .b => .adcB
  | .adc, .reg .c => .adcC
  | .adc, .reg .d => .adcD
  | .adc, .reg .e => .adcE
  | .adc, .reg .h => .adcH
  | .adc, .reg .l => .adcL
  | .adc, .m => .adcM
  | .adc, .reg .a => .adcA
  | .sub, .reg .b => .subB
  | .sub, .reg .c => .subC
  | .sub, .reg .d => .subD
  | .sub, .reg .e => .subE
  | .sub, .reg .h => .subH
  | .sub, .reg .l => .subL
  | .sub, .m => .subM
  | .sub, .reg .a => .subA
  | .sbb, .reg .b => .sbbB
  | .sbb, .reg .c => .sbbC
  | .sbb, .reg .d => .sbbD
  | .sbb, .reg .e => .sbbE
  | .sbb, .reg .h => .sbbH
  | .sbb, .reg .l => .sbbL
  | .sbb, .m => .sbbM
  | .sbb, .reg .a => .sbbA
  | .ana, .reg .b => .anaB
  | .ana, .reg .c => .anaC
  | .ana, .reg .d => .anaD
  | .ana, .reg .e => .anaE
  | .ana, .reg .h => .anaH
  | .ana, .reg .l => .anaL
  | .ana, .m => .anaM
  | .ana, .reg .a => .anaA
  | .xra, .reg .b => .xraB
  | .xra, .reg .c => .xraC
  | .xra, .reg .d => .xraD
  | .xra, .reg .e => .xraE
  | .xra, .reg .h => .xraH
  | .xra, .reg .l => .xraL
  | .xra, .m => .xraM
  | .xra, .reg .a => .xraA
  | .ora, .reg .b => .oraB
  | .ora, .reg .c => .oraC
  | .ora, .reg .d => .oraD
  | .ora, .reg .e => .oraE
  | .ora, .reg .h => .oraH
  | .ora, .reg .l => .oraL
  | .ora, .m => .oraM
  | .ora, .reg .a => .oraA
  | .cmp, .reg .b => .cmpB
  | .cmp, .reg .c => .cmpC
  | .cmp, .reg .d => .cmpD
  | .cmp, .reg .e => .cmpE
  | .cmp, .reg .h => .cmpH
  | .cmp, .reg .l => .cmpL
  | .cmp, .m => .cmpM
  | .cmp, .reg .a => .cmpA

/-- `11ooo110` d8: an ALU operation with an immediate (R89). -/
def aluImmInstr : AluOp → Byte → Instr
  | .add, d8 => .adi d8
  | .adc, d8 => .aci d8
  | .sub, d8 => .sui d8
  | .sbb, d8 => .sbi d8
  | .ana, d8 => .ani d8
  | .xra, d8 => .xri d8
  | .ora, d8 => .ori d8
  | .cmp, d8 => .cpi d8

/-- `00rp0001` d16: LXI (R86). -/
def lxiInstr : Pair → Word → Instr
  | .bc, d16 => .lxiB d16
  | .de, d16 => .lxiD d16
  | .hl, d16 => .lxiH d16
  | .sp, d16 => .lxiSp d16

/-- `00rp0011`: INX (R86). -/
def inxInstr : Pair → Instr
  | .bc => .inxB
  | .de => .inxD
  | .hl => .inxH
  | .sp => .inxSp

/-- `00rp1011`: DCX (R86). -/
def dcxInstr : Pair → Instr
  | .bc => .dcxB
  | .de => .dcxD
  | .hl => .dcxH
  | .sp => .dcxSp

/-- `00rp1001`: DAD (R86). -/
def dadInstr : Pair → Instr
  | .bc => .dadB
  | .de => .dadD
  | .hl => .dadH
  | .sp => .dadSp

/-- `00rp1010` with rp = 00 or 01: LDAX (R86, R141, R142). -/
def ldaxInstr : PointerPair → Instr
  | .bc => .ldaxB
  | .de => .ldaxD

/-- `00rp0010` with rp = 00 or 01: STAX (R86, R141, R142). -/
def staxInstr : PointerPair → Instr
  | .bc => .staxB
  | .de => .staxD

/-- `11rp0101`: PUSH (R89). -/
def pushInstr : StackPair → Instr
  | .bc => .pushB
  | .de => .pushD
  | .hl => .pushH
  | .psw => .pushPsw

/-- `11rp0001`: POP (R89). -/
def popInstr : StackPair → Instr
  | .bc => .popB
  | .de => .popD
  | .hl => .popH
  | .psw => .popPsw

/-- `11ccc010` a16: the conditional jumps (R89). -/
def jumpCondInstr : Cond → Word → Instr
  | .nz, a16 => .jnz a16
  | .z, a16 => .jz a16
  | .nc, a16 => .jnc a16
  | .c, a16 => .jc a16
  | .po, a16 => .jpo a16
  | .pe, a16 => .jpe a16
  | .p, a16 => .jp a16
  | .m, a16 => .jm a16

/-- `11ccc100` a16: the conditional calls (R89). -/
def callCondInstr : Cond → Word → Instr
  | .nz, a16 => .cnz a16
  | .z, a16 => .cz a16
  | .nc, a16 => .cnc a16
  | .c, a16 => .cc a16
  | .po, a16 => .cpo a16
  | .pe, a16 => .cpe a16
  | .p, a16 => .cp a16
  | .m, a16 => .cm a16

/-- `11ccc000`: the conditional returns (R89). -/
def returnCondInstr : Cond → Instr
  | .nz => .rnz
  | .z => .rz
  | .nc => .rnc
  | .c => .rc
  | .po => .rpo
  | .pe => .rpe
  | .p => .rp
  | .m => .rm

/-- `11nnn111`: RST n (R89). -/
def rstInstr (n : BitVec 3) : Instr :=
  match n.toNat with
  | 0 => .rst0
  | 1 => .rst1
  | 2 => .rst2
  | 3 => .rst3
  | 4 => .rst4
  | 5 => .rst5
  | 6 => .rst6
  | _ => .rst7

end Sys2Proof.Machine
end

