-- ==== Sys2Proof/Machine/Launch.lean ====
section
/-! DEFINITION. What the host does to the block between steps: RESET, loading the image, seeding PC and SP, attaching
the I/O handlers (10_state.md R44, R46; 20_memory.md R74; 70_reset_and_hazards.md R290 to R296). Inspection needs no
definition: every field of State can be read, and a memory byte by `memRead`. -/

namespace Sys2Proof.Machine

/-- `loadProgram(state, bytes, atAddress)`: refused, with memory unchanged, when the image does not fit (20_memory.md
R74; U10). -/
def loadProgram (bytes : List Byte) (atAddress : Word) (s : State) : Answer :=
  if atAddress.toNat + bytes.length ≤ Config.memSize then
    .next { s with mem := Memory.load s.mem atAddress.toNat bytes }
  else .refused .imageDoesNotFit

/-- The host's seed setter of PC (70_reset_and_hazards.md R292). -/
def seedPc (v : Word) (s : State) : State := { s with pc := v }

/-- The host's seed setter of SP (R292). -/
def seedSp (v : Word) (s : State) : State := { s with sp := v }

/-- `setIoHandlers`: the environment of the run (R294; log entry 2). -/
def attachIo (handler : InHandler) (s : State) : State := { s with inHandler := handler }

/-- The launch state of a run from its open parameters (R295, R296): reset, load, seed, attach. -/
def launch (image : List Byte) (loadAddr pcInit spInit : Word) (handler : InHandler) : Answer :=
  match loadProgram image loadAddr State.reset with
  | .next s => .next (attachIo handler (seedSp spInit (seedPc pcInit s)))
  | .fault f => .fault f
  | .refused r => .refused r

/-- The block in the host's hands: its state, and whether a step has been made since reset. The second is the host's
own bookkeeping, not state of the block (10_state.md R20; log entry 9). -/
structure Session where
  state : State
  started : Bool
  deriving DecidableEq, Repr

/-- What the host can do between steps, and the step itself (R44, R46). -/
inductive HostAction where
  | reset
  | load (bytes : List Byte) (atAddress : Word)
  | seedPc (v : Word)
  | seedSp (v : Word)
  | attachIo (handler : InHandler)
  | step
  deriving DecidableEq, Repr

/-- A session right after RESET (log entry 10). -/
def Session.fresh : Session := { state := State.reset, started := false }

/-- A host write: allowed before the first step, refused after it (10_state.md R46; U9; D18). -/
def hostWrite (n : Session) (answer : Answer) : Host.Outcome Session Fault Refusal :=
  if n.started then .refused .hostWriteAfterStart
  else
    match answer with
    | .next s => .next { n with state := s }
    | .fault f => .fault f
    | .refused r => .refused r

/-- One action of the host. RESET is allowed at any time and gives the all-zero state (R290; log entry 10). -/
def hostAct (act : HostAction) (n : Session) : Host.Outcome Session Fault Refusal :=
  match act with
  | .reset => .next Session.fresh
  | .load bytes atAddress => hostWrite n (loadProgram bytes atAddress n.state)
  | .seedPc v => hostWrite n (.next (seedPc v n.state))
  | .seedSp v => hostWrite n (.next (seedSp v n.state))
  | .attachIo handler => hostWrite n (.next (attachIo handler n.state))
  | .step =>
    match step n.state with
    | .next s => .next { state := s, started := true }
    | .fault f => .fault f
    | .refused r => .refused r

end Sys2Proof.Machine
end

