-- ==== Sys2Proof/Safety.lean ====
section
/-! DEFINITION. What the claims about runs use: the invariant of every reachable state, the two ends of a run, and
states that differ only in the I/O environment. -/

namespace Sys2Proof.Machine

/-- What holds of every state a run reaches. -/
structure Inv (s : State) : Prop where
  /-- Memory is in its canonical form (log entry 5). -/
  mem_wf : Memory.wf s.mem = true
  /-- A halted core stands just after an HLT opcode (46_io_system.md R264). -/
  halted_after_hlt : s.halted = true → memRead (s.pc - 1) s = 0x76#8
  /-- A faulted core stands at the undefined opcode that its record names (60_exceptions.md R271, R275). -/
  fault_at_opcode : ∀ record, s.fault = some record →
    memRead s.pc s ∈ undefinedOpcodes ∧ record = .unimplementedOpcode (memRead s.pc s) s.pc
  /-- FAULT and HALTED are never both set (R277). -/
  one_latch : ¬ (s.halted = true ∧ s.fault.isSome = true)

/-- The run has ended, normally or not (70_reset_and_hazards.md R305). -/
def Ended (s : State) : Prop := s.halted = true ∨ s.fault.isSome = true

/-- The normal end: HALTED set and no fault (R305). -/
def NormalEnd (s : State) : Prop := s.halted = true ∧ s.fault = none

/-- The state with another I/O environment; the block's own state (10_state.md R20) is the same. -/
def withEnv (handler : InHandler) (reads : Nat) (ports : List Byte) (outputs : List (Byte × Byte)) (s : State) : State :=
  { s with inHandler := handler, inReads := reads, inPorts := ports, outputs := outputs }

/-- The three bytes from PC on: all an instruction can have (30_encoding.md R81). -/
def bytesAtPc (s : State) : List Byte :=
  [memRead s.pc s, memRead (s.pc + 1) s, memRead (s.pc + 2) s]

/-- The core fetches and executes at the next step: neither latch is set (R45). -/
def Running (s : State) : Prop := s.fault = none ∧ s.halted = false

end Sys2Proof.Machine
end

