-- ==== Sys2Proof/Certificates/Slice0/Obligations.lean ====
section
/-! DEFINITION. The statements about the model, and the plain-arithmetic restatements of the rules they use. A meaning
runs in the state after all bytes of its instruction are fetched, so PC there is the address of the next sequential
instruction; StepRunsDecodedInstruction joins the two. Each statement of an instruction's rule says the encoding first, by
the fields of 30_encoding.md R82. Opcode numbers and codes, and some behaviours, are the spec's own passages (GK1 to GK8 of
93_implementation_defined.md, decisions D1 to D22 of 92_eei_decisions.md); they are followed as its rules. -/

namespace Sys2Proof.Claims

open Sys2Proof.Machine

/-- The 8-bit source operand `sss`: a register, or the memory byte at `{H, L}` (R12, R22). -/
def operandValue : Operand → State → Byte
  | .reg r, s => readReg r s
  | .m, s => memRead (s.h ++ s.l) s

/-- A pair as an integer: 256 * high + low (R23). -/
def pairValue : Pair → State → Nat
  | .bc, s => 256 * s.b.toNat + s.c.toNat
  | .de, s => 256 * s.d.toNat + s.e.toNat
  | .hl, s => 256 * s.h.toNat + s.l.toNat
  | .sp, s => s.sp.toNat

/-- The state with a pair set to an integer modulo 65,536 (R23). -/
def withPair : Pair → Nat → State → State
  | .bc, n, s => { s with b := BitVec.ofNat 8 (n / 256), c := BitVec.ofNat 8 n }
  | .de, n, s => { s with d := BitVec.ofNat 8 (n / 256), e := BitVec.ofNat 8 n }
  | .hl, n, s => { s with h := BitVec.ofNat 8 (n / 256), l := BitVec.ofNat 8 n }
  | .sp, n, s => { s with sp := BitVec.ofNat 16 n }

/-- The pair whose value LDAX and STAX use as an address (R141, R142). -/
def pointerAddr : PointerPair → State → Word
  | .bc, s => s.b ++ s.c
  | .de, s => s.d ++ s.e

/-- The low 8 bits of an integer have an even number of ones (R112). -/
def evenParity (x : Nat) : Bool := (List.range 8).countP (fun k => x.testBit k) % 2 == 0

/-- Z, S and P from an 8-bit result, the other two flags as given (R110, R111, R112). -/
def zspFlags (x : Nat) (cy ac : Bool) : Flags :=
  { z := decide (x % 256 = 0), s := decide (128 ≤ x % 256), p := evenParity x, cy := cy, ac := ac }

/-- The flags of the integer sum a + v + c (R113, R115, R117). -/
def sumFlags (a v : Byte) (c : Bool) : Flags :=
  zspFlags (a.toNat + v.toNat + c.toNat)
    (decide (256 ≤ a.toNat + v.toNat + c.toNat)) (decide (16 ≤ a.toNat % 16 + v.toNat % 16 + c.toNat))

/-- a - v - c modulo 256, as an integer from 0 to 255 (R119). -/
def difference (a v : Byte) (c : Bool) : Nat := (a.toNat + 512 - v.toNat - c.toNat) % 256

/-- The flags of a - v - c: CY is the borrow (R114), AC is 1 when bit 4 lends nothing (R116). -/
def differenceFlags (a v : Byte) (c : Bool) : Flags :=
  zspFlags (difference a v c) (decide (a.toNat < v.toNat + c.toNat))
    (decide (v.toNat % 16 + c.toNat ≤ a.toNat % 16))

/-- The operand bytes of a word, the low byte first (R81, R84). -/
def wordBytes (w : Word) : List Byte := [w.extractLsb' 0 8, w.extractLsb' 8 8]

/-- The branch conditions (R85, R216). -/
def condTrue : Cond → Flags → Bool
  | .nz, f => decide (f.z = false)
  | .z, f => decide (f.z = true)
  | .nc, f => decide (f.cy = false)
  | .c, f => decide (f.cy = true)
  | .po, f => decide (f.p = false)
  | .pe, f => decide (f.p = true)
  | .p, f => decide (f.s = false)
  | .m, f => decide (f.s = true)

/-- `t`'s memory is `s`'s with exactly these cells stored: each holds its byte, every other address reads as before. -/
def StoresOnly (s t : State) (cells : List (Word × Byte)) : Prop :=
  (∀ k ∈ cells, memRead k.1 t = k.2) ∧
  (∀ x : Word, (∀ k ∈ cells, x ≠ k.1) → memRead x t = memRead x s)

/-- The answer is a next state that differs from `u` at most in memory, and whose memory is `s`'s with exactly these
cells stored. -/
def NextStores (answer : Answer) (s u : State) (cells : List (Word × Byte)) : Prop :=
  ∃ t, answer = .next t ∧ t = { u with mem := t.mem } ∧ StoresOnly s t cells

/-- The cells a push of `{hi, lo}` stores (R58). -/
def pushCells (hi lo : Byte) (s : State) : List (Word × Byte) := [(s.sp - 1, hi), (s.sp - 2, lo)]

/-- The cells a push of the return address PC stores (R229, R252). -/
def returnCells (s : State) : List (Word × Byte) :=
  pushCells (s.pc.extractLsb' 8 8) (s.pc.extractLsb' 0 8) s

/-- The word at the top of the stack: the low byte at SP, the high byte at SP + 1 (R59). -/
def stackTop (s : State) : Word := memRead (s.sp + 1) s ++ memRead s.sp s

/-- The packed flags byte as a number: S, Z, 0, AC, 0, P, 1, CY from bit 7 down (R31). -/
def flagsNumber (f : Flags) : Nat :=
  128 * f.s.toNat + 64 * f.z.toNat + 16 * f.ac.toNat + 4 * f.p.toNat + 2 + f.cy.toNat

end Sys2Proof.Claims

open Sys2Proof Sys2Proof.Machine Sys2Proof.Claims

/-! Encoding. -/

/-- Decoding the bytes of any instruction, with every operand value, gives the instruction back (R81, R84, R90). -/
def Obligations.DecodeOfEncodeGivesInstruction : Prop :=
  ∀ (i : Instr) (rest : List Byte), decode (encode i ++ rest) = .ok (i, rest)

/-- A byte sequence that decodes to an instruction is that instruction's encoding followed by the rest (R98). -/
def Obligations.EncodeOfDecodeGivesBytes : Prop :=
  ∀ (bytes rest : List Byte) (i : Instr), decode bytes = .ok (i, rest) → bytes = encode i ++ rest

/-- Every opcode byte decodes, whatever bytes follow, and R83's lists, which read the opcode alone, give the length. R83
gives an undefined opcode no length; one byte, all that its step fetches (R96), is the model's reading (log entry 6). -/
def Obligations.OpcodeAloneFixesLength : Prop :=
  ∀ op b1 b2 : Byte, ∃ i, decode [op, b1, b2] = .ok (i, [b1, b2].drop (instrLength op - 1)) ∧
    (encode i).length = instrLength op ∧ opcodeOf i = op

/-- Words written out from R83 to R89, for every family, decode to the instructions they stand for (sanity). -/
def Obligations.SampleWordsDecode : Prop :=
  decode [0x41#8] = .ok (.movBC, []) ∧
  decode [0x3A#8, 0x10#8, 0x20#8] = .ok (.lda 0x2010#16, []) ∧
  decode [0x86#8] = .ok (.addM, []) ∧
  decode [0x27#8] = .ok (.daa, []) ∧
  decode [0xE6#8, 0x0F#8] = .ok (.ani 0x0F#8, []) ∧
  decode [0x1F#8] = .ok (.rar, []) ∧
  decode [0xF5#8] = .ok (.pushPsw, []) ∧
  decode [0xC3#8, 0x34#8, 0x12#8] = .ok (.jmp 0x1234#16, []) ∧
  decode [0xDF#8] = .ok (.rst3, []) ∧
  decode [0xDB#8, 0x01#8] = .ok (.inPort 0x01#8, []) ∧
  decode [0x76#8] = .ok (.hlt, []) ∧
  decode [0xCB#8, 0x34#8, 0x12#8] = .ok (.undefinedCB, [0x34#8, 0x12#8])

/-- The opcodes that are no defined instruction are exactly the twelve of R96. -/
def Obligations.UndefinedOpcodesAreTheTwelve : Prop :=
  ∀ (op : Byte) (rest tail : List Byte) (i : Instr), decode (op :: rest) = .ok (i, tail) →
    (i.wellFormed = false ↔ op ∈ [0x08#8, 0x10#8, 0x18#8, 0x20#8, 0x28#8, 0x30#8, 0x38#8,
      0xCB#8, 0xD9#8, 0xDD#8, 0xED#8, 0xFD#8])

/-! Memory, registers, fetching and the stack. -/

/-- R52, R53: a read after a write gives the byte written at that address and the old byte at every other, and the write
changes nothing but memory. -/
def Obligations.MemoryReadAfterWrite : Prop :=
  ∀ (s : State) (x y : Word) (v : Byte),
    memRead y (memWrite x v s) = (if y = x then v else memRead y s) ∧
    memWrite x v s = { s with mem := (memWrite x v s).mem }

/-- Memories in the model's canonical form (log entry 5, the model's choice) are equal data when every address reads the
same in both. -/
def Obligations.CanonicalMemoryIsUnique : Prop :=
  ∀ m m' : Memory, Memory.wf m = true → Memory.wf m' = true →
    (∀ n, Memory.read m n = Memory.read m' n) → m = m'

/-- R21, R23: writing a register is seen by the next read of it and by no other register; a pair is its two registers, the
first named the high byte, both ways. -/
def Obligations.RegisterFileReadAfterWrite : Prop :=
  (∀ (r q : Reg) (v : Byte) (s : State), readReg q (writeReg r v s) = if q = r then v else readReg q s) ∧
  (∀ (r : Reg) (v : Byte) (s : State), writeReg r v s =
    { s with a := (writeReg r v s).a, b := (writeReg r v s).b, c := (writeReg r v s).c, d := (writeReg r v s).d,
             e := (writeReg r v s).e, h := (writeReg r v s).h, l := (writeReg r v s).l }) ∧
  (∀ (p : Pair) (s : State), (readPair p s).toNat = pairValue p s) ∧
  (∀ (p : Pair) (v : Word) (s : State), writePair p v s = withPair p v.toNat s) ∧
  (∀ (p : Pair) (v : Word) (s : State), readPair p (writePair p v s) = v)

/-- R55: the first byte fetched is the low byte, the second the high byte; PC moves by two, modulo 65,536; nothing else
changes. -/
def Obligations.FetchWordIsLittleEndian : Prop :=
  ∀ s : State, (fetchWord s).1.toNat = 256 * (memRead (s.pc + 1) s).toNat + (memRead s.pc s).toNat ∧
    (fetchWord s).2 = { s with pc := s.pc + 2 }

/-- R58: the high byte at SP - 1, the low byte at SP - 2, SP two lower, all modulo 65,536; nothing else changes. -/
def Obligations.PushStoresHighThenLow : Prop :=
  ∀ (v : Word) (s : State),
    push16 v s = { s with sp := s.sp - 2, mem := (push16 v s).mem } ∧
    StoresOnly s (push16 v s) (pushCells (v.extractLsb' 8 8) (v.extractLsb' 0 8) s)

/-- R59: what a push stored, a pop gives back, and SP is where it was; a pop changes nothing but SP. -/
def Obligations.PopMirrorsPush : Prop :=
  (∀ s : State, pop16 s = (stackTop s, { s with sp := s.sp + 2 })) ∧
  (∀ (v : Word) (s : State), (pop16 (push16 v s)).1 = v ∧ (pop16 (push16 v s)).2.sp = s.sp)

/-! Data transfer. No flag, no PC: the answer is written out whole. -/

/-- R131, R132, R134: MOV to a register (49 register forms and 7 from memory) and MVI to a register. -/
def Obligations.MovesToRegister : Prop :=
  (∀ dst o, encode (movInstr (.reg dst) o) = [(0b01#2 ++ regCode dst ++ operandCode o : Byte)]) ∧
  (∀ dst v, encode (mviInstr (.reg dst) v) = [(0b00#2 ++ regCode dst ++ 0b110#3 : Byte), v]) ∧
  (∀ (dst src : Reg) (s : State), exec (movInstr (.reg dst) (.reg src)) s =
    .next (writeReg dst (readReg src s) s)) ∧
  (∀ (dst : Reg) (s : State), exec (movInstr (.reg dst) .m) s =
    .next (writeReg dst (memRead (s.h ++ s.l) s) s)) ∧
  (∀ (dst : Reg) (v : Byte) (s : State), exec (mviInstr (.reg dst) v) s = .next (writeReg dst v s))

/-- R133, R135: MOV M,r and MVI M store one byte at HL and change nothing else. -/
def Obligations.MovesToMemory : Prop :=
  (∀ r, encode (movInstr .m (.reg r)) = [(0b01#2 ++ 0b110#3 ++ regCode r : Byte)]) ∧
  (∀ v, encode (mviInstr .m v) = [0x36#8, v]) ∧
  (∀ (src : Reg) (s : State), NextStores (exec (movInstr .m (.reg src)) s) s s [(s.h ++ s.l, readReg src s)]) ∧
  (∀ (v : Byte) (s : State), NextStores (exec (mviInstr .m v) s) s s [(s.h ++ s.l, v)])

/-- R136: LXI loads a pair or SP. -/
def Obligations.LxiLoadsPair : Prop :=
  (∀ p w, encode (lxiInstr p w) = (0b00#2 ++ pairCode p ++ 0b0001#4 : Byte) :: wordBytes w) ∧
  ∀ (p : Pair) (d16 : Word) (s : State), exec (lxiInstr p d16) s = .next (withPair p d16.toNat s)

/-- R137, R138, R141: LDA, LHLD (L from a16, H from a16 + 1 modulo 65,536) and LDAX. -/
def Obligations.LoadsReadMemory : Prop :=
  (∀ w, encode (.lda w) = 0x3A#8 :: wordBytes w) ∧
  (∀ w, encode (.lhld w) = 0x2A#8 :: wordBytes w) ∧
  (∀ p, encode (ldaxInstr p) = [(0b00#2 ++ pointerPairCode p ++ 0b1010#4 : Byte)]) ∧
  (∀ (a16 : Word) (s : State), exec (.lda a16) s = .next { s with a := memRead a16 s }) ∧
  (∀ (a16 : Word) (s : State), exec (.lhld a16) s =
    .next { s with l := memRead a16 s, h := memRead (a16 + 1) s }) ∧
  (∀ (p : PointerPair) (s : State), exec (ldaxInstr p) s = .next { s with a := memRead (pointerAddr p s) s })

/-- R139, R140, R142: STA, SHLD (L to a16, H to a16 + 1 modulo 65,536) and STAX change memory only. -/
def Obligations.StoresWriteMemory : Prop :=
  (∀ w, encode (.sta w) = 0x32#8 :: wordBytes w) ∧
  (∀ w, encode (.shld w) = 0x22#8 :: wordBytes w) ∧
  (∀ p, encode (staxInstr p) = [(0b00#2 ++ pointerPairCode p ++ 0b0010#4 : Byte)]) ∧
  (∀ (a16 : Word) (s : State), NextStores (exec (.sta a16) s) s s [(a16, s.a)]) ∧
  (∀ (a16 : Word) (s : State), NextStores (exec (.shld a16) s) s s [(a16, s.l), (a16 + 1, s.h)]) ∧
  (∀ (p : PointerPair) (s : State), NextStores (exec (staxInstr p) s) s s [(pointerAddr p s, s.a)])

/-- R143, R206, R253: XCHG exchanges DE and HL; SPHL and PCHL copy HL to SP and to PC. -/
def Obligations.ExchangeAndCopiesOfHl : Prop :=
  encode .xchg = [0xEB#8] ∧ encode .sphl = [0xF9#8] ∧ encode .pchl = [0xE9#8] ∧
  ∀ s : State,
    exec .xchg s = .next { s with d := s.h, e := s.l, h := s.d, l := s.e } ∧
    exec .sphl s = .next { s with sp := s.h ++ s.l } ∧
    exec .pchl s = .next { s with pc := s.h ++ s.l }

/-! Arithmetic. -/

/-- R151 to R154, R118: ADD, ADC, ADI and ACI write A and all five flags; the carry in is 0 or the old CY. -/
def Obligations.AdditionsWriteSumAndFlags : Prop :=
  (∀ o, encode (aluInstr .add o) = [(0b10#2 ++ 0b000#3 ++ operandCode o : Byte)]) ∧
  (∀ o, encode (aluInstr .adc o) = [(0b10#2 ++ 0b001#3 ++ operandCode o : Byte)]) ∧
  (∀ v, encode (aluImmInstr .add v) = [0xC6#8, v]) ∧
  (∀ v, encode (aluImmInstr .adc v) = [0xCE#8, v]) ∧
  (∀ (o : Operand) (s : State), exec (aluInstr .add o) s = .next { s with
    a := BitVec.ofNat 8 (s.a.toNat + (operandValue o s).toNat)
    flags := sumFlags s.a (operandValue o s) false }) ∧
  (∀ (o : Operand) (s : State), exec (aluInstr .adc o) s = .next { s with
    a := BitVec.ofNat 8 (s.a.toNat + (operandValue o s).toNat + s.flags.cy.toNat)
    flags := sumFlags s.a (operandValue o s) s.flags.cy }) ∧
  (∀ (v : Byte) (s : State), exec (aluImmInstr .add v) s = .next { s with
    a := BitVec.ofNat 8 (s.a.toNat + v.toNat), flags := sumFlags s.a v false }) ∧
  (∀ (v : Byte) (s : State), exec (aluImmInstr .adc v) s = .next { s with
    a := BitVec.ofNat 8 (s.a.toNat + v.toNat + s.flags.cy.toNat), flags := sumFlags s.a v s.flags.cy })

/-- R155 to R158, R119: SUB, SBB, SUI and SBI write A and all five flags; the borrow in is 0 or the old CY. -/
def Obligations.SubtractionsWriteDifferenceAndFlags : Prop :=
  (∀ o, encode (aluInstr .sub o) = [(0b10#2 ++ 0b010#3 ++ operandCode o : Byte)]) ∧
  (∀ o, encode (aluInstr .sbb o) = [(0b10#2 ++ 0b011#3 ++ operandCode o : Byte)]) ∧
  (∀ v, encode (aluImmInstr .sub v) = [0xD6#8, v]) ∧
  (∀ v, encode (aluImmInstr .sbb v) = [0xDE#8, v]) ∧
  (∀ (o : Operand) (s : State), exec (aluInstr .sub o) s = .next { s with
    a := BitVec.ofNat 8 (difference s.a (operandValue o s) false)
    flags := differenceFlags s.a (operandValue o s) false }) ∧
  (∀ (o : Operand) (s : State), exec (aluInstr .sbb o) s = .next { s with
    a := BitVec.ofNat 8 (difference s.a (operandValue o s) s.flags.cy)
    flags := differenceFlags s.a (operandValue o s) s.flags.cy }) ∧
  (∀ (v : Byte) (s : State), exec (aluImmInstr .sub v) s = .next { s with
    a := BitVec.ofNat 8 (difference s.a v false), flags := differenceFlags s.a v false }) ∧
  (∀ (v : Byte) (s : State), exec (aluImmInstr .sbb v) s = .next { s with
    a := BitVec.ofNat 8 (difference s.a v s.flags.cy), flags := differenceFlags s.a v s.flags.cy })

/-- R159, R160: CMP and CPI write the flags of SUB and nothing else; Z says A = operand, CY says A < operand. -/
def Obligations.ComparesWriteFlagsOnly : Prop :=
  (∀ o, encode (aluInstr .cmp o) = [(0b10#2 ++ 0b111#3 ++ operandCode o : Byte)]) ∧
  (∀ v, encode (aluImmInstr .cmp v) = [0xFE#8, v]) ∧
  (∀ (o : Operand) (s : State), exec (aluInstr .cmp o) s =
    .next { s with flags := differenceFlags s.a (operandValue o s) false }) ∧
  (∀ (v : Byte) (s : State), exec (aluImmInstr .cmp v) s =
    .next { s with flags := differenceFlags s.a v false }) ∧
  (∀ a v : Byte, (differenceFlags a v false).z = decide (a = v) ∧
    (differenceFlags a v false).cy = decide (a.toNat < v.toNat))

/-- R161 to R164: INR and DCR write the register or the byte at HL, modulo 256, and Z, S, P from it; CY and AC stay. -/
def Obligations.IncrementsAndDecrementsKeepCarries : Prop :=
  (∀ o, encode (inrInstr o) = [(0b00#2 ++ operandCode o ++ 0b100#3 : Byte)]) ∧
  (∀ o, encode (dcrInstr o) = [(0b00#2 ++ operandCode o ++ 0b101#3 : Byte)]) ∧
  (∀ (r : Reg) (s : State), exec (inrInstr (.reg r)) s = .next { writeReg r (readReg r s + 1) s with
    flags := zspFlags (readReg r s + 1).toNat s.flags.cy s.flags.ac }) ∧
  (∀ (r : Reg) (s : State), exec (dcrInstr (.reg r)) s = .next { writeReg r (readReg r s - 1) s with
    flags := zspFlags (readReg r s - 1).toNat s.flags.cy s.flags.ac }) ∧
  (∀ s : State, NextStores (exec (inrInstr .m) s) s
    { s with flags := zspFlags (memRead (s.h ++ s.l) s + 1).toNat s.flags.cy s.flags.ac }
    [(s.h ++ s.l, memRead (s.h ++ s.l) s + 1)]) ∧
  (∀ s : State, NextStores (exec (dcrInstr .m) s) s
    { s with flags := zspFlags (memRead (s.h ++ s.l) s - 1).toNat s.flags.cy s.flags.ac }
    [(s.h ++ s.l, memRead (s.h ++ s.l) s - 1)])

/-- R165, R166: INX and DCX add and subtract one modulo 65,536 and write no flag. -/
def Obligations.PairIncrementsWrapWithoutFlags : Prop :=
  (∀ p, encode (inxInstr p) = [(0b00#2 ++ pairCode p ++ 0b0011#4 : Byte)]) ∧
  (∀ p, encode (dcxInstr p) = [(0b00#2 ++ pairCode p ++ 0b1011#4 : Byte)]) ∧
  ∀ (p : Pair) (s : State),
    exec (inxInstr p) s = .next (withPair p (pairValue p s + 1) s) ∧
    exec (dcxInstr p) s = .next (withPair p (pairValue p s + 65535) s)

/-- R167: DAD adds a pair to HL; CY is bit 16 of the sum and no other flag changes. -/
def Obligations.DadAddsPairToHl : Prop :=
  (∀ p, encode (dadInstr p) = [(0b00#2 ++ pairCode p ++ 0b1001#4 : Byte)]) ∧
  ∀ (p : Pair) (s : State), exec (dadInstr p) s =
    .next { withPair .hl (pairValue .hl s + pairValue p s) s with
      flags := { s.flags with cy := decide (65536 ≤ pairValue .hl s + pairValue p s) } }

/-- R168: DAA, with its algorithm written out as the rule has it. -/
def Obligations.DaaAdjustsDecimal : Prop :=
  encode .daa = [0x27#8] ∧
  ∀ s : State,
    let a := s.a.toNat
    let lo := a % 16
    let hi := a / 16
    let low : Bool := decide (lo > 9 ∨ s.flags.ac = true)
    let high : Bool := decide (hi > 9 ∨ s.flags.cy = true ∨ (hi ≥ 9 ∧ lo > 9))
    let c := (if low then 0x06 else 0) + (if high then 0x60 else 0)
    exec .daa s = .next { s with
      a := BitVec.ofNat 8 (a + c)
      flags := zspFlags (a + c) (s.flags.cy || high) (decide (lo + c % 16 > 0xF)) }

/-! Logical. -/

/-- R181 to R186: the three logical operations, register, memory and immediate forms; CY and AC become 0. -/
def Obligations.LogicalsClearCarries : Prop :=
  (∀ o, encode (aluInstr .ana o) = [(0b10#2 ++ 0b100#3 ++ operandCode o : Byte)]) ∧
  (∀ o, encode (aluInstr .xra o) = [(0b10#2 ++ 0b101#3 ++ operandCode o : Byte)]) ∧
  (∀ o, encode (aluInstr .ora o) = [(0b10#2 ++ 0b110#3 ++ operandCode o : Byte)]) ∧
  (∀ v, encode (aluImmInstr .ana v) = [0xE6#8, v]) ∧
  (∀ v, encode (aluImmInstr .xra v) = [0xEE#8, v]) ∧
  (∀ v, encode (aluImmInstr .ora v) = [0xF6#8, v]) ∧
  ∀ (o : Operand) (v : Byte) (s : State),
    exec (aluInstr .ana o) s = .next { s with
      a := s.a &&& operandValue o s, flags := zspFlags (s.a &&& operandValue o s).toNat false false } ∧
    exec (aluInstr .xra o) s = .next { s with
      a := s.a ^^^ operandValue o s, flags := zspFlags (s.a ^^^ operandValue o s).toNat false false } ∧
    exec (aluInstr .ora o) s = .next { s with
      a := s.a ||| operandValue o s, flags := zspFlags (s.a ||| operandValue o s).toNat false false } ∧
    exec (aluImmInstr .ana v) s = .next { s with
      a := s.a &&& v, flags := zspFlags (s.a &&& v).toNat false false } ∧
    exec (aluImmInstr .xra v) s = .next { s with
      a := s.a ^^^ v, flags := zspFlags (s.a ^^^ v).toNat false false } ∧
    exec (aluImmInstr .ora v) s = .next { s with
      a := s.a ||| v, flags := zspFlags (s.a ||| v).toNat false false }

/-- R187 to R190: the four rotates as arithmetic on A; CY takes the evicted bit and no other flag changes. -/
def Obligations.RotatesMoveOneBit : Prop :=
  encode .rlc = [0x07#8] ∧ encode .rrc = [0x0F#8] ∧ encode .ral = [0x17#8] ∧ encode .rar = [0x1F#8] ∧
  ∀ s : State,
    exec .rlc s = .next { s with
      a := BitVec.ofNat 8 (2 * s.a.toNat + s.a.toNat / 128)
      flags := { s.flags with cy := decide (128 ≤ s.a.toNat) } } ∧
    exec .rrc s = .next { s with
      a := BitVec.ofNat 8 (s.a.toNat / 2 + 128 * (s.a.toNat % 2))
      flags := { s.flags with cy := decide (s.a.toNat % 2 = 1) } } ∧
    exec .ral s = .next { s with
      a := BitVec.ofNat 8 (2 * s.a.toNat + s.flags.cy.toNat)
      flags := { s.flags with cy := decide (128 ≤ s.a.toNat) } } ∧
    exec .rar s = .next { s with
      a := BitVec.ofNat 8 (s.a.toNat / 2 + 128 * s.flags.cy.toNat)
      flags := { s.flags with cy := decide (s.a.toNat % 2 = 1) } }

/-- R191 to R193: CMA complements A and touches no flag; CMC and STC write CY only. -/
def Obligations.ComplementAndCarryInstructions : Prop :=
  encode .cma = [0x2F#8] ∧ encode .cmc = [0x3F#8] ∧ encode .stc = [0x37#8] ∧
  ∀ s : State,
    exec .cma s = .next { s with a := BitVec.ofNat 8 (255 - s.a.toNat) } ∧
    exec .cmc s = .next { s with flags := { s.flags with cy := decide (s.flags.cy = false) } } ∧
    exec .stc s = .next { s with flags := { s.flags with cy := true } }

/-! Stack. -/

/-- R201, R202, R31: PUSH of a pair and of the PSW, with the flags byte's three fixed bits. -/
def Obligations.PushInstructionsStorePair : Prop :=
  (∀ p, encode (pushInstr p) = [(0b11#2 ++ stackPairCode p ++ 0b0101#4 : Byte)]) ∧
  ∀ s : State,
    NextStores (exec (pushInstr .bc) s) s { s with sp := s.sp - 2 } (pushCells s.b s.c s) ∧
    NextStores (exec (pushInstr .de) s) s { s with sp := s.sp - 2 } (pushCells s.d s.e s) ∧
    NextStores (exec (pushInstr .hl) s) s { s with sp := s.sp - 2 } (pushCells s.h s.l s) ∧
    NextStores (exec (pushInstr .psw) s) s { s with sp := s.sp - 2 }
      (pushCells s.a (BitVec.ofNat 8 (flagsNumber s.flags)) s)

/-- R203: POP of a pair. -/
def Obligations.PopInstructionsLoadPair : Prop :=
  (∀ p, encode (popInstr p) = [(0b11#2 ++ stackPairCode p ++ 0b0001#4 : Byte)]) ∧
  ∀ s : State,
    exec (popInstr .bc) s = .next { s with b := memRead (s.sp + 1) s, c := memRead s.sp s, sp := s.sp + 2 } ∧
    exec (popInstr .de) s = .next { s with d := memRead (s.sp + 1) s, e := memRead s.sp s, sp := s.sp + 2 } ∧
    exec (popInstr .hl) s = .next { s with h := memRead (s.sp + 1) s, l := memRead s.sp s, sp := s.sp + 2 }

/-- R204: POP PSW loads A and the five flags and ignores bits 5, 3 and 1; so PUSH PSW of what a byte gave restores the
byte's five flag bits with the fixed bits in place (D11). -/
def Obligations.PopPswLoadsFlags : Prop :=
  encode (popInstr .psw) = [0xF1#8] ∧
  (∀ s : State, exec (popInstr .psw) s = .next { s with
    a := memRead (s.sp + 1) s
    flags := { s := (memRead s.sp s).getLsbD 7, z := (memRead s.sp s).getLsbD 6, ac := (memRead s.sp s).getLsbD 4,
               p := (memRead s.sp s).getLsbD 2, cy := (memRead s.sp s).getLsbD 0 }
    sp := s.sp + 2 }) ∧
  (∀ f : Flags, flagsOfByte (BitVec.ofNat 8 (flagsNumber f)) = f) ∧
  (∀ v : Byte, flagsByte (flagsOfByte v) = (v &&& 0xD5#8) ||| 0x02#8)

/-- R205: XTHL exchanges HL with the two bytes at SP; both reads come before both writes, and SP stays. -/
def Obligations.XthlExchangesStackTop : Prop :=
  encode .xthl = [0xE3#8] ∧
  ∀ s : State, NextStores (exec .xthl s) s { s with l := memRead s.sp s, h := memRead (s.sp + 1) s }
    [(s.sp, s.l), (s.sp + 1, s.h)]

/-! Control transfer. -/

/-- R219 to R228: JMP and the eight conditional jumps; not taken, PC stays after the three bytes. -/
def Obligations.JumpsWritePcWhenTaken : Prop :=
  (∀ w, encode (.jmp w) = 0xC3#8 :: wordBytes w) ∧
  (∀ cond w, encode (jumpCondInstr cond w) = (0b11#2 ++ condCode cond ++ 0b010#3 : Byte) :: wordBytes w) ∧
  (∀ (a16 : Word) (s : State), exec (.jmp a16) s = .next { s with pc := a16 }) ∧
  (∀ (cond : Cond) (a16 : Word) (s : State), exec (jumpCondInstr cond a16) s =
    .next (if condTrue cond s.flags then { s with pc := a16 } else s))

/-- R229 to R238: CALL and the eight conditional calls push the address after their three bytes; not taken, nothing
changes. -/
def Obligations.CallsPushReturnAddress : Prop :=
  (∀ w, encode (.call w) = 0xCD#8 :: wordBytes w) ∧
  (∀ cond w, encode (callCondInstr cond w) = (0b11#2 ++ condCode cond ++ 0b100#3 : Byte) :: wordBytes w) ∧
  (∀ (a16 : Word) (s : State),
    NextStores (exec (.call a16) s) s { s with sp := s.sp - 2, pc := a16 } (returnCells s)) ∧
  (∀ (cond : Cond) (a16 : Word) (s : State), condTrue cond s.flags = true →
    NextStores (exec (callCondInstr cond a16) s) s { s with sp := s.sp - 2, pc := a16 } (returnCells s)) ∧
  (∀ (cond : Cond) (a16 : Word) (s : State), condTrue cond s.flags = false →
    exec (callCondInstr cond a16) s = .next s)

/-- R239 to R248: RET and the eight conditional returns; not taken, nothing changes. Popping into PC in POP's byte order is
an inference the spec marks as its own (R239: "derived: from 20_memory.md rule R59 and rule R229"). -/
def Obligations.ReturnsPopPc : Prop :=
  encode .ret = [0xC9#8] ∧
  (∀ cond, encode (returnCondInstr cond) = [(0b11#2 ++ condCode cond ++ 0b000#3 : Byte)]) ∧
  (∀ s : State, exec .ret s = .next { s with sp := s.sp + 2, pc := stackTop s }) ∧
  (∀ (cond : Cond) (s : State), exec (returnCondInstr cond) s =
    .next (if condTrue cond s.flags then { s with sp := s.sp + 2, pc := stackTop s } else s))

/-- R252: RST n pushes the address after its one byte and goes to 8 * n. -/
def Obligations.RestartGoesToEightTimesN : Prop :=
  (∀ n, encode (rstInstr n) = [(0b11#2 ++ n ++ 0b111#3 : Byte)]) ∧
  ∀ (n : BitVec 3) (s : State), NextStores (exec (rstInstr n) s) s
    { s with sp := s.sp - 2, pc := BitVec.ofNat 16 (8 * n.toNat) } (returnCells s)

/-! Input/output and system. -/

/-- R266, R43, R260: IN presents its port to the environment, stores the byte the handler answers for that port in A, and
changes nothing else of the block; with no handler the byte is 0x00. How State holds the handler and the ports presented is
the model's choice (log entry 2); where the listed moments are used up, A gets a value of which nothing is said. -/
def Obligations.InStoresEnvironmentAnswer : Prop :=
  (∀ port, encode (.inPort port) = [0xDB#8, port]) ∧
  ∀ (port : Byte) (s : State), ∃ v handler, exec (.inPort port) s = .next { s with
      a := v, inHandler := handler, inReads := s.inReads + 1, inPorts := s.inPorts ++ [port] } ∧
    (s.inHandler = .unset → v = 0x00#8 ∧ handler = .unset) ∧
    (∀ answers, s.inHandler = .fixed answers →
      v = answers[port.toNat]'port.isLt ∧ handler = .fixed answers) ∧
    (∀ answers moments, s.inHandler = .varying (answers :: moments) →
      v = answers[port.toNat]'port.isLt ∧ handler = .varying moments) ∧
    (s.inHandler = .varying [] → handler = .varying [])

/-- R267, R261: OUT presents (port, A) and changes no state of the block; the record of what was presented is the model's
own (log entry 4). -/
def Obligations.OutPresentsAccumulator : Prop :=
  (∀ port, encode (.outPort port) = [0xD3#8, port]) ∧
  ∀ (port : Byte) (s : State), exec (.outPort port) s = .next { s with outputs := s.outputs ++ [(port, s.a)] }

/-- R262, R263, R265: EI and DI write INTE at once and nothing else; NOP changes nothing. -/
def Obligations.InterruptEnableAndNop : Prop :=
  encode .ei = [0xFB#8] ∧ encode .di = [0xF3#8] ∧ encode .nop = [0x00#8] ∧
  ∀ s : State, exec .ei s = .next { s with inte := true } ∧ exec .di s = .next { s with inte := false } ∧
    exec .nop s = .next s

/-- R264: HLT sets HALTED and nothing else, PC stays after the opcode (D6), and the step's result, read off the state (log
entry 1), is Halted. -/
def Obligations.HltSetsHalted : Prop :=
  encode .hlt = [0x76#8] ∧
  ∀ s : State, exec .hlt s = .next { s with halted := true } ∧
    (s.fault = none → stepResult { s with halted := true } = .halted)

/-- R271: the meaning of an undefined opcode puts PC back by the one byte fetched and records the opcode and its address;
nothing else changes. The twelve constructors are those WellFormed refuses. -/
def Obligations.UndefinedOpcodeRaises : Prop :=
  ∀ (i : Instr) (s : State), i.wellFormed = false → exec i s =
    .next { s with pc := s.pc - 1, fault := some (.unimplementedOpcode (opcodeOf i) (s.pc - 1)) }

/-- R271: a step that fetches one of the twelve undefined bytes sets FAULT to that byte and its address and changes nothing
else, PC included (the spec's decision D4); a step that fetches any other byte sets no fault. -/
def Obligations.UndefinedOpcodeStepIsPrecise : Prop :=
  (∀ s : State, Running s → memRead s.pc s ∈ undefinedOpcodes →
    step s = .next { s with fault := some (.unimplementedOpcode (memRead s.pc s) s.pc) }) ∧
  (∀ s : State, Running s → memRead s.pc s ∉ undefinedOpcodes → ∃ t, step s = .next t ∧ t.fault = none)

/-! The step. -/

/-- R45, R26: a running core executes the instruction that the bytes from PC on decode to, in the state whose PC is past
that instruction's bytes. -/
def Obligations.StepRunsDecodedInstruction : Prop :=
  ∀ (s : State) (i : Instr) (rest : List Byte), Running s → decode (bytesAtPc s) = .ok (i, rest) →
    step s = exec i { s with pc := s.pc + BitVec.ofNat 16 (encode i).length }

/-- R45, the whole procedure: a faulted core changes nothing and fails again; a halted core changes nothing and is Halted (the
spec's decisions D5, D6); an undefined opcode sets FAULT and nothing else and fails; any other opcode runs its instruction,
and the result is Halted for HLT and Continued otherwise. That the result is read off the state is the model's choice (log
entry 1). -/
def Obligations.StepFollowsItsProcedure : Prop :=
  ∀ s : State,
    (∀ record, s.fault = some record → step s = .next s ∧ stepResult s = .failed record) ∧
    (s.fault = none → s.halted = true → step s = .next s ∧ stepResult s = .halted) ∧
    (Running s → memRead s.pc s ∈ undefinedOpcodes → ∃ t, step s = .next t ∧
      t = { s with fault := some (.unimplementedOpcode (memRead s.pc s) s.pc) } ∧
      stepResult t = .failed (.unimplementedOpcode (memRead s.pc s) s.pc)) ∧
    (Running s → memRead s.pc s ∉ undefinedOpcodes → ∃ i rest t,
      decode (bytesAtPc s) = .ok (i, rest) ∧ opcodeOf i = memRead s.pc s ∧
      exec i { s with pc := s.pc + BitVec.ofNat 16 (encode i).length } = .next t ∧ step s = .next t ∧
      stepResult t = if memRead s.pc s = 0x76#8 then .halted else .continued)

/-- From every state a step answers a next state. For a running core: no instruction, operand or address stops the model
(R305 "In every other state the core has a next step", R98, R51). For a halted or faulted core, a step changes no state (R45,
U15); that the model answers this as a next state, the core's own, and not as a fault is the model's choice (log entry 1). -/
def Obligations.EveryStepAnswersNext : Prop :=
  ∀ s : State, ∃ t, step s = .next t

/-- R275, R277: the invariant holds at reset (sanity). -/
def Obligations.ResetMeetsInvariant : Prop := Inv State.reset

/-- The invariant (canonical memory, FAULT naming the undefined opcode at PC, HALTED just after an HLT, never both latches)
is kept by every step (R264, R271, R275, R277; the memory form is the model's, log entry 5). -/
def Obligations.EveryStepKeepsInvariant : Prop :=
  ∀ s t : State, Inv s → step s = .next t → Inv t

/-! What each instruction leaves unchanged. -/

/-- Every 8-bit register outside the rule's own list is unchanged, for all 256 instructions. -/
def Obligations.UnwrittenRegistersUnchanged : Prop :=
  ∀ (i : Instr) (s t : State) (r : Reg), exec i s = .next t → r ∉ writtenRegs i → readReg r t = readReg r s

/-- R29, R30: every flag outside the rule's own list is unchanged, for all 256 instructions. -/
def Obligations.UnwrittenFlagsUnchanged : Prop :=
  ∀ (i : Instr) (s t : State) (f : FlagName), exec i s = .next t → f ∉ writtenFlags i →
    flagValue f t.flags = flagValue f s.flags

/-- R28, R32, R36, R37: SP is written only by the instructions of R28's list, INTE only by EI and DI, HALTED only by HLT,
FAULT only by the undefined opcodes. The last two clauses are about the model's own record of the I/O environment, which is
no state of the block (log entries 2 and 4, the model's choice): only IN uses up an answer or adds a port and only OUT adds an output, as
only these two reach the I/O space (R34). -/
def Obligations.SpecialStateWrittenOnlyByItsInstructions : Prop :=
  ∀ (i : Instr) (s t : State), exec i s = .next t →
    (writesSp i = false → t.sp = s.sp) ∧
    (i ≠ .ei → i ≠ .di → t.inte = s.inte) ∧
    (i ≠ .hlt → t.halted = s.halted) ∧
    (i.wellFormed = true → t.fault = s.fault) ∧
    ((∀ port, i ≠ .inPort port) → t.inHandler = s.inHandler ∧ t.inReads = s.inReads ∧ t.inPorts = s.inPorts) ∧
    ((∀ port, i ≠ .outPort port) → t.outputs = s.outputs)

/-- R27: an instruction whose rule does not write PC leaves it at its opcode's address plus its length, modulo 65,536. -/
def Obligations.PcAdvancesByLength : Prop :=
  ∀ (s t : State) (i : Instr) (rest : List Byte), Running s → decode (bytesAtPc s) = .ok (i, rest) →
    writesPc i = false → step s = .next t → t.pc = s.pc + BitVec.ofNat 16 (encode i).length

/-- R61, R42: every byte of memory outside the addresses the instruction stores to reads as before, for all 256
instructions; an instruction that stores nothing has no such address. -/
def Obligations.MemoryUnchangedOutsideStores : Prop :=
  ∀ (i : Instr) (s t : State) (x : Word), exec i s = .next t → x ∉ storedAddrs i s → memRead x t = memRead x s

/-- R32: no step reads INTE: with another INTE a step answers the same state but for INTE. -/
def Obligations.InterruptEnableInfluencesNothing : Prop :=
  ∀ (s t : State) (b : Bool), step s = .next t →
    ∃ b', step { s with inte := b } = .next { t with inte := b' }

/-- R30: AC is read only by DAA and PUSH PSW: for every other instruction, with another AC the answer is the same but for
AC. -/
def Obligations.AuxCarryReadOnlyByDaaAndPushPsw : Prop :=
  ∀ (i : Instr) (s t : State) (b : Bool), i ≠ .daa → i ≠ .pushPsw → exec i s = .next t →
    ∃ b', exec i { s with flags := { s.flags with ac := b } } =
      .next { t with flags := { t.flags with ac := b' } }

/-- R306, R38: the environment influences the block only through the byte that IN puts in A: with another environment, a
step answers the same block state but for A, and the same A too unless the opcode at PC is IN's. The four fields varied are
the model's own record of the environment (log entries 2 and 4, the model's choice). Nothing is said of the byte an IN
receives, so entry 2's warning about comparing two runs on a free value does not bear on this. -/
def Obligations.EnvironmentInfluencesOnlyIn : Prop :=
  ∀ (s t : State) (handler : InHandler) (reads : Nat) (ports : List Byte) (outputs : List (Byte × Byte)),
    step s = .next t → ∃ handler' reads' ports' outputs' v,
      step (withEnv handler reads ports outputs s) =
        .next (withEnv handler' reads' ports' outputs' { t with a := v }) ∧
      (memRead s.pc s ≠ 0xDB#8 → v = t.a)

/-! Reset, the host, and placing an instruction. -/

/-- R39, R290: every register, flag and latch after reset, and every memory byte. -/
def Obligations.ResetIsAllZero : Prop :=
  (∀ r, readReg r State.reset = 0x00#8) ∧ (∀ f, flagValue f State.reset.flags = false) ∧
  State.reset.inte = false ∧ State.reset.sp = 0x0000#16 ∧ State.reset.pc = 0x0000#16 ∧
  (∀ x : Word, memRead x State.reset = 0x00#8) ∧ State.reset.halted = false ∧ State.reset.fault = none

/-- R74: loadProgram copies the bytes to consecutive addresses and changes nothing else, and is refused when they do not
fit. -/
def Obligations.LoadProgramCopiesImage : Prop :=
  ∀ (bytes : List Byte) (base : Word) (s : State),
    (base.toNat + bytes.length ≤ 65536 → ∃ t, loadProgram bytes base s = .next t ∧ t = { s with mem := t.mem } ∧
      (∀ (k : Nat) (v : Byte), bytes[k]? = some v → memRead (base + BitVec.ofNat 16 k) t = v) ∧
      (∀ x : Word, x.toNat < base.toNat ∨ base.toNat + bytes.length ≤ x.toNat → memRead x t = memRead x s)) ∧
    (65536 < base.toNat + bytes.length → loadProgram bytes base s = .refused .imageDoesNotFit)

/-- R292, R294, R296: the launch state is the reset state with the loaded memory, the seeded PC and SP and the attached
handler. -/
def Obligations.LaunchStateFromParameters : Prop :=
  ∀ (image : List Byte) (loadAddr pcInit spInit : Word) (handler : InHandler) (t : State),
    loadProgram image loadAddr State.reset = .next t →
    launch image loadAddr pcInit spInit handler =
      .next { State.reset with mem := t.mem, pc := pcInit, sp := spInit, inHandler := handler }

/-- R46, U9: after the first step every host write is refused; RESET is not, and gives the reset state. That attaching
handlers counts as a host write is the model's choice (log entry 9). -/
def Obligations.HostWritesRefusedAfterStart : Prop :=
  ∀ n : Session,
    (n.started = true → ∀ (bytes : List Byte) (v : Word) (handler : InHandler),
      hostAct (.load bytes v) n = .refused .hostWriteAfterStart ∧
      hostAct (.seedPc v) n = .refused .hostWriteAfterStart ∧
      hostAct (.seedSp v) n = .refused .hostWriteAfterStart ∧
      hostAct (.attachIo handler) n = .refused .hostWriteAfterStart) ∧
    hostAct .reset n = .next { state := State.reset, started := false } ∧
    (∀ t, step n.state = .next t → hostAct .step n = .next { state := t, started := true })

/-- The instruction that a table word decodes to, placed with withFetchWord, is the one the next step runs (the model's
convention for loading, log entry 8). -/
def Obligations.PlacedInstructionIsFetched : Prop :=
  ∀ (s : State) (nbits w : Nat) (i : Instr), decodeTableWord nbits w = some i →
    step (s.withFetchWord nbits w) =
      exec i { s.withFetchWord nbits w with pc := s.pc + BitVec.ofNat 16 (encode i).length }
end

