-- ==== Sys2Proof/Laws/Decode.lean ====
section
/-! SUPPORT. The grid of R90 and the encoder agree, cell by cell; what follows of decoding. -/

namespace Sys2Proof

/-- Every row of the grid has sixteen cells, so `gridCell` never takes its default. -/
theorem gridRow_length : ∀ n < 16, (gridRow n).length = 16 := by decide

/-- What a cell of the grid says of the encodings of its instructions. -/
def GridCell.Agrees (op : Byte) : GridCell → Prop
  | .f1 i => encode i = [op]
  | .f2 mk => ∀ d8, encode (mk d8) = [op, d8]
  | .f3 mk => ∀ d16, encode (mk d16) = [op, loByte d16, hiByte d16]

/-- The grid and the encoder agree on every opcode byte. -/
theorem gridCell_agrees (op : Byte) : (gridCell op).Agrees op := by
  have all : ∀ n < 256, (gridCell (BitVec.ofNat 8 n)).Agrees (BitVec.ofNat 8 n) := by
    intro n hn
    interval_cases n <;> first | exact (rfl : encode _ = _) | exact fun _ => (rfl : encode _ = _)
  simpa using all op.toNat op.isLt

theorem wordOf_loByte_hiByte (w : Word) : wordOf (hiByte w) (loByte w) = w := by
  apply BitVec.eq_of_getLsbD_eq
  intro k hk
  simp only [wordOf, hiByte, loByte, BitVec.getLsbD_append, BitVec.getLsbD_extractLsb']
  by_cases h : k < 8
  · simp [h]
  · have h8 : k - 8 < 8 := by omega
    have h9 : 8 + (k - 8) = k := by omega
    simp [h, h8, h9]

@[simp] theorem loByte_wordOf (hi lo : Byte) : loByte (wordOf hi lo) = lo := by
  apply BitVec.eq_of_getLsbD_eq
  intro k hk
  simp only [wordOf, loByte, BitVec.getLsbD_extractLsb', BitVec.getLsbD_append]
  simp [hk]

@[simp] theorem hiByte_wordOf (hi lo : Byte) : hiByte (wordOf hi lo) = hi := by
  apply BitVec.eq_of_getLsbD_eq
  intro k hk
  simp only [wordOf, hiByte, BitVec.getLsbD_extractLsb', BitVec.getLsbD_append]
  simp [hk]

/-- `{hi, lo}` as an integer (R11). -/
theorem wordOf_toNat (hi lo : Byte) : (wordOf hi lo).toNat = 256 * hi.toNat + lo.toNat := by
  have h : lo.toNat < 2 ^ 8 := lo.isLt
  rw [wordOf, BitVec.toNat_append, Nat.shiftLeft_eq, ← Nat.shiftLeft_eq, ← Nat.shiftLeft_add_eq_or_of_lt h,
    Nat.shiftLeft_eq]
  omega

end Sys2Proof
end

