-- ==== Sys2Proof/Laws/Flags.lean ====
section
/-! SUPPORT. The flag functions of a byte in plain arithmetic, and the packed flags byte read back. -/

namespace Sys2Proof.Machine

theorem zeroFlag_eq (v : Byte) : zeroFlag v = decide (v.toNat = 0) := by
  by_cases h : v = 0x00#8
  · simp [zeroFlag, h]
  · have : v.toNat ≠ 0 := fun hn => h (BitVec.eq_of_toNat_eq (by simpa using hn))
    simp [zeroFlag, h, this]

theorem signFlag_eq (v : Byte) : signFlag v = decide (128 ≤ v.toNat) := by
  have : signFlag v = v.msb := by simp [signFlag, BitVec.msb_eq_getLsbD_last]
  rw [this, BitVec.msb_eq_decide]

/-- Parity reads the low eight bits only. -/
theorem parityFlag_eq (x : Nat) :
    parityFlag (BitVec.ofNat 8 x) = ((List.range 8).countP (fun k => x.testBit k) % 2 == 0) := by
  have : (List.range 8).countP (fun k => (BitVec.ofNat 8 x).getLsbD k) =
      (List.range 8).countP (fun k => x.testBit k) := by
    apply List.countP_congr
    intro k hk
    simp only [BitVec.getLsbD_ofNat]
    simp [List.mem_range.mp hk]
  simp [parityFlag, popcount, this]

/-- What POP PSW reads of the byte PUSH PSW writes: all five flags. -/
theorem flagsOfByte_flagsByte (f : Flags) : flagsOfByte (flagsByte f) = f := by
  obtain ⟨z, s, p, cy, ac⟩ := f
  cases z <;> cases s <;> cases p <;> cases cy <;> cases ac <;> rfl

end Sys2Proof.Machine
end

