-- ==== Sys2Proof/Laws/Memory.lean ====
section
/-! SUPPORT. The laws of memory as a list of cells: read after write, and the canonical form. -/

namespace Sys2Proof.Machine

theorem Memory.read_erase (m : Memory) (n k : Nat) :
    Memory.read (Memory.erase m n) k = if k = n then Config.memReset else Memory.read m k := by
  induction m with
  | nil => simp [Memory.erase, Memory.read]
  | cons cell m ih =>
    obtain ⟨a, w⟩ := cell
    by_cases h : a = n
    · simp only [Memory.erase, h, if_true, ih, Memory.read]
      by_cases hk : k = n
      · simp [hk]
      · simp [hk, Ne.symm hk]
    · simp only [Memory.erase, h, if_false, Memory.read, ih]
      by_cases hk : k = n
      · subst hk; simp [h]
      · simp [hk]

theorem Memory.read_insert (m : Memory) (n k : Nat) (v : Byte) (h : ∀ c ∈ m, c.1 ≠ n) :
    Memory.read (Memory.insert m n v) k = if k = n then v else Memory.read m k := by
  induction m with
  | nil =>
    by_cases hk : k = n
    · simp [Memory.insert, Memory.read, hk]
    · simp [Memory.insert, Memory.read, hk, Ne.symm hk]
  | cons cell m ih =>
    obtain ⟨a, w⟩ := cell
    have ha : a ≠ n := h (a, w) (by simp)
    have ih := ih (fun c hc => h c (by simp [hc]))
    by_cases hlt : n < a
    · by_cases hk : k = n
      · simp [Memory.insert, hlt, Memory.read, hk]
      · simp [Memory.insert, hlt, Memory.read, hk, Ne.symm hk]
    · simp only [Memory.insert, hlt, if_false, Memory.read, ih]
      by_cases hk : k = n
      · subst hk; simp [ha]
      · simp [hk]

theorem Memory.erase_avoids (m : Memory) (n : Nat) : ∀ c ∈ Memory.erase m n, c.1 ≠ n := by
  induction m with
  | nil => simp [Memory.erase]
  | cons cell m ih =>
    obtain ⟨a, w⟩ := cell
    by_cases h : a = n
    · simpa [Memory.erase, h] using ih
    · simpa [Memory.erase, h] using ih

/-- R52, R53: a read after a write, for any two addresses. -/
theorem Memory.read_write (m : Memory) (n k : Nat) (v : Byte) :
    Memory.read (Memory.write m n v) k = if k = n then v else Memory.read m k := by
  unfold Memory.write
  split
  · next h => rw [Memory.read_erase, h]
  · rw [Memory.read_insert _ _ _ _ (Memory.erase_avoids m n), Memory.read_erase]
    by_cases hk : k = n <;> simp [hk]

theorem Memory.wfFrom_cons (lo a : Nat) (w : Byte) (m : Memory) :
    Memory.wfFrom lo ((a, w) :: m) = true ↔
      (lo ≤ a ∧ a < Config.memSize ∧ w ≠ Config.memReset) ∧ Memory.wfFrom (a + 1) m = true := by
  simp [Memory.wfFrom, and_assoc]

theorem Memory.wfFrom_mono (m : Memory) {lo lo' : Nat} (h : lo' ≤ lo) (hm : Memory.wfFrom lo m = true) :
    Memory.wfFrom lo' m = true := by
  cases m with
  | nil => rfl
  | cons cell m =>
    obtain ⟨a, w⟩ := cell
    rw [Memory.wfFrom_cons] at hm ⊢
    exact ⟨⟨Nat.le_trans h hm.1.1, hm.1.2⟩, hm.2⟩

theorem Memory.erase_wfFrom (m : Memory) (n lo : Nat) (hm : Memory.wfFrom lo m = true) :
    Memory.wfFrom lo (Memory.erase m n) = true := by
  induction m generalizing lo with
  | nil => rfl
  | cons cell m ih =>
    obtain ⟨a, w⟩ := cell
    rw [Memory.wfFrom_cons] at hm
    have ih := ih (a + 1) hm.2
    by_cases h : a = n
    · simp only [Memory.erase, h, if_true]
      exact Memory.wfFrom_mono _ (by omega) (h ▸ ih)
    · simp only [Memory.erase, h, if_false, Memory.wfFrom_cons]
      exact ⟨hm.1, ih⟩

theorem Memory.insert_wfFrom (m : Memory) (n lo : Nat) (v : Byte) (hm : Memory.wfFrom lo m = true)
    (hv : v ≠ Config.memReset) (hn : n < Config.memSize) (hlo : lo ≤ n) (havoid : ∀ c ∈ m, c.1 ≠ n) :
    Memory.wfFrom lo (Memory.insert m n v) = true := by
  induction m generalizing lo with
  | nil => simp [Memory.insert, Memory.wfFrom, hv, hn, hlo]
  | cons cell m ih =>
    obtain ⟨a, w⟩ := cell
    rw [Memory.wfFrom_cons] at hm
    have ha : a ≠ n := havoid (a, w) (by simp)
    by_cases hlt : n < a
    · simp only [Memory.insert, hlt, if_true, Memory.wfFrom_cons]
      exact ⟨⟨hlo, hn, hv⟩, ⟨hlt, hm.1.2⟩, hm.2⟩
    · simp only [Memory.insert, hlt, if_false, Memory.wfFrom_cons]
      exact ⟨hm.1, ih (a + 1) hm.2 (by omega) (fun c hc => havoid c (by simp [hc]))⟩

/-- A write to an address inside the memory keeps the canonical form. -/
theorem Memory.write_wf (m : Memory) (n : Nat) (v : Byte) (hm : Memory.wf m = true) (hn : n < Config.memSize) :
    Memory.wf (Memory.write m n v) = true := by
  unfold Memory.write
  split
  · exact Memory.erase_wfFrom _ _ _ hm
  · next hv =>
    exact Memory.insert_wfFrom _ _ _ _ (Memory.erase_wfFrom _ _ _ hm) hv hn (Nat.zero_le _) (Memory.erase_avoids _ _)

/-- Below its first cell a canonical memory reads as the reset value. -/
theorem Memory.read_below (m : Memory) (lo n : Nat) (hm : Memory.wfFrom lo m = true) (hn : n < lo) :
    Memory.read m n = Config.memReset := by
  induction m generalizing lo with
  | nil => rfl
  | cons cell m ih =>
    obtain ⟨a, w⟩ := cell
    rw [Memory.wfFrom_cons] at hm
    have hne : a ≠ n := by omega
    simpa [Memory.read, hne] using ih (a + 1) hm.2 (by omega)

/-- The reset memory is canonical. -/
theorem Memory.reset_wf : Memory.wf State.reset.mem = true := rfl

/-- Loading an image that fits keeps the canonical form. -/
theorem Memory.load_wf (bytes : List Byte) (m : Memory) (n : Nat) (hm : Memory.wf m = true)
    (hn : n + bytes.length ≤ Config.memSize) : Memory.wf (Memory.load m n bytes) = true := by
  induction bytes generalizing m n with
  | nil => exact hm
  | cons v bytes ih =>
    simp only [List.length_cons] at hn
    exact ih _ _ (Memory.write_wf m n v hm (by omega)) (by omega)

/-- Loading leaves every address outside the image alone. -/
theorem Memory.read_load_outside (bytes : List Byte) (m : Memory) (n k : Nat) (h : k < n ∨ n + bytes.length ≤ k) :
    Memory.read (Memory.load m n bytes) k = Memory.read m k := by
  induction bytes generalizing m n with
  | nil => rfl
  | cons v bytes ih =>
    simp only [List.length_cons] at h
    rw [Memory.load, ih _ _ (by omega), Memory.read_write, if_neg (by omega)]

end Sys2Proof.Machine
end

