-- ==== Sys2Proof/Laws/State.lean ====
section
/-! SUPPORT. One lemma per field per update: what each shared operation leaves of each field of State. -/

namespace Sys2Proof.Machine

@[simp] theorem memWrite_a (x : Word) (v : Byte) (s : State) : (memWrite x v s).a = s.a := rfl
@[simp] theorem memWrite_b (x : Word) (v : Byte) (s : State) : (memWrite x v s).b = s.b := rfl
@[simp] theorem memWrite_c (x : Word) (v : Byte) (s : State) : (memWrite x v s).c = s.c := rfl
@[simp] theorem memWrite_d (x : Word) (v : Byte) (s : State) : (memWrite x v s).d = s.d := rfl
@[simp] theorem memWrite_e (x : Word) (v : Byte) (s : State) : (memWrite x v s).e = s.e := rfl
@[simp] theorem memWrite_h (x : Word) (v : Byte) (s : State) : (memWrite x v s).h = s.h := rfl
@[simp] theorem memWrite_l (x : Word) (v : Byte) (s : State) : (memWrite x v s).l = s.l := rfl
@[simp] theorem memWrite_sp (x : Word) (v : Byte) (s : State) : (memWrite x v s).sp = s.sp := rfl
@[simp] theorem memWrite_pc (x : Word) (v : Byte) (s : State) : (memWrite x v s).pc = s.pc := rfl
@[simp] theorem memWrite_flags (x : Word) (v : Byte) (s : State) : (memWrite x v s).flags = s.flags := rfl
@[simp] theorem memWrite_inte (x : Word) (v : Byte) (s : State) : (memWrite x v s).inte = s.inte := rfl
@[simp] theorem memWrite_halted (x : Word) (v : Byte) (s : State) : (memWrite x v s).halted = s.halted := rfl
@[simp] theorem memWrite_fault (x : Word) (v : Byte) (s : State) : (memWrite x v s).fault = s.fault := rfl
@[simp] theorem memWrite_inHandler (x : Word) (v : Byte) (s : State) : (memWrite x v s).inHandler = s.inHandler := rfl
@[simp] theorem memWrite_inReads (x : Word) (v : Byte) (s : State) : (memWrite x v s).inReads = s.inReads := rfl
@[simp] theorem memWrite_inPorts (x : Word) (v : Byte) (s : State) : (memWrite x v s).inPorts = s.inPorts := rfl
@[simp] theorem memWrite_outputs (x : Word) (v : Byte) (s : State) : (memWrite x v s).outputs = s.outputs := rfl
@[simp] theorem memWrite_mem (x : Word) (v : Byte) (s : State) : (memWrite x v s).mem = Memory.write s.mem x.toNat v := rfl

@[simp] theorem writeReg_sp (r : Reg) (v : Byte) (s : State) : (writeReg r v s).sp = s.sp := by cases r <;> rfl
@[simp] theorem writeReg_pc (r : Reg) (v : Byte) (s : State) : (writeReg r v s).pc = s.pc := by cases r <;> rfl
@[simp] theorem writeReg_flags (r : Reg) (v : Byte) (s : State) : (writeReg r v s).flags = s.flags := by cases r <;> rfl
@[simp] theorem writeReg_inte (r : Reg) (v : Byte) (s : State) : (writeReg r v s).inte = s.inte := by cases r <;> rfl
@[simp] theorem writeReg_mem (r : Reg) (v : Byte) (s : State) : (writeReg r v s).mem = s.mem := by cases r <;> rfl
@[simp] theorem writeReg_halted (r : Reg) (v : Byte) (s : State) : (writeReg r v s).halted = s.halted := by cases r <;> rfl
@[simp] theorem writeReg_fault (r : Reg) (v : Byte) (s : State) : (writeReg r v s).fault = s.fault := by cases r <;> rfl
@[simp] theorem writeReg_inHandler (r : Reg) (v : Byte) (s : State) : (writeReg r v s).inHandler = s.inHandler := by cases r <;> rfl
@[simp] theorem writeReg_inReads (r : Reg) (v : Byte) (s : State) : (writeReg r v s).inReads = s.inReads := by cases r <;> rfl
@[simp] theorem writeReg_inPorts (r : Reg) (v : Byte) (s : State) : (writeReg r v s).inPorts = s.inPorts := by cases r <;> rfl
@[simp] theorem writeReg_outputs (r : Reg) (v : Byte) (s : State) : (writeReg r v s).outputs = s.outputs := by cases r <;> rfl

@[simp] theorem writePair_pc (p : Pair) (v : Word) (s : State) : (writePair p v s).pc = s.pc := by cases p <;> rfl
@[simp] theorem writePair_flags (p : Pair) (v : Word) (s : State) : (writePair p v s).flags = s.flags := by cases p <;> rfl
@[simp] theorem writePair_inte (p : Pair) (v : Word) (s : State) : (writePair p v s).inte = s.inte := by cases p <;> rfl
@[simp] theorem writePair_mem (p : Pair) (v : Word) (s : State) : (writePair p v s).mem = s.mem := by cases p <;> rfl
@[simp] theorem writePair_halted (p : Pair) (v : Word) (s : State) : (writePair p v s).halted = s.halted := by cases p <;> rfl
@[simp] theorem writePair_fault (p : Pair) (v : Word) (s : State) : (writePair p v s).fault = s.fault := by cases p <;> rfl
@[simp] theorem writePair_inHandler (p : Pair) (v : Word) (s : State) : (writePair p v s).inHandler = s.inHandler := by cases p <;> rfl
@[simp] theorem writePair_inReads (p : Pair) (v : Word) (s : State) : (writePair p v s).inReads = s.inReads := by cases p <;> rfl
@[simp] theorem writePair_inPorts (p : Pair) (v : Word) (s : State) : (writePair p v s).inPorts = s.inPorts := by cases p <;> rfl
@[simp] theorem writePair_outputs (p : Pair) (v : Word) (s : State) : (writePair p v s).outputs = s.outputs := by cases p <;> rfl

@[simp] theorem writePair_a (p : Pair) (v : Word) (s : State) : (writePair p v s).a = s.a := by cases p <;> rfl

@[simp] theorem writePsw_b (v : Word) (s : State) : (writePsw v s).b = s.b := rfl
@[simp] theorem writePsw_c (v : Word) (s : State) : (writePsw v s).c = s.c := rfl
@[simp] theorem writePsw_d (v : Word) (s : State) : (writePsw v s).d = s.d := rfl
@[simp] theorem writePsw_e (v : Word) (s : State) : (writePsw v s).e = s.e := rfl
@[simp] theorem writePsw_h (v : Word) (s : State) : (writePsw v s).h = s.h := rfl
@[simp] theorem writePsw_l (v : Word) (s : State) : (writePsw v s).l = s.l := rfl
@[simp] theorem writePsw_sp (v : Word) (s : State) : (writePsw v s).sp = s.sp := rfl
@[simp] theorem writePsw_pc (v : Word) (s : State) : (writePsw v s).pc = s.pc := rfl
@[simp] theorem writePsw_inte (v : Word) (s : State) : (writePsw v s).inte = s.inte := rfl
@[simp] theorem writePsw_mem (v : Word) (s : State) : (writePsw v s).mem = s.mem := rfl
@[simp] theorem writePsw_halted (v : Word) (s : State) : (writePsw v s).halted = s.halted := rfl
@[simp] theorem writePsw_fault (v : Word) (s : State) : (writePsw v s).fault = s.fault := rfl
@[simp] theorem writePsw_inHandler (v : Word) (s : State) : (writePsw v s).inHandler = s.inHandler := rfl
@[simp] theorem writePsw_inReads (v : Word) (s : State) : (writePsw v s).inReads = s.inReads := rfl
@[simp] theorem writePsw_inPorts (v : Word) (s : State) : (writePsw v s).inPorts = s.inPorts := rfl
@[simp] theorem writePsw_outputs (v : Word) (s : State) : (writePsw v s).outputs = s.outputs := rfl
@[simp] theorem writePsw_a (v : Word) (s : State) : (writePsw v s).a = hiByte v := rfl
@[simp] theorem writePsw_flags (v : Word) (s : State) : (writePsw v s).flags = flagsOfByte (loByte v) := rfl

@[simp] theorem writeOperand_sp (o : Operand) (v : Byte) (s : State) : (writeOperand o v s).sp = s.sp := by cases o <;> simp [writeOperand]
@[simp] theorem writeOperand_pc (o : Operand) (v : Byte) (s : State) : (writeOperand o v s).pc = s.pc := by cases o <;> simp [writeOperand]
@[simp] theorem writeOperand_flags (o : Operand) (v : Byte) (s : State) : (writeOperand o v s).flags = s.flags := by cases o <;> simp [writeOperand]
@[simp] theorem writeOperand_inte (o : Operand) (v : Byte) (s : State) : (writeOperand o v s).inte = s.inte := by cases o <;> simp [writeOperand]
@[simp] theorem writeOperand_halted (o : Operand) (v : Byte) (s : State) : (writeOperand o v s).halted = s.halted := by cases o <;> simp [writeOperand]
@[simp] theorem writeOperand_fault (o : Operand) (v : Byte) (s : State) : (writeOperand o v s).fault = s.fault := by cases o <;> simp [writeOperand]
@[simp] theorem writeOperand_inHandler (o : Operand) (v : Byte) (s : State) : (writeOperand o v s).inHandler = s.inHandler := by cases o <;> simp [writeOperand]
@[simp] theorem writeOperand_inReads (o : Operand) (v : Byte) (s : State) : (writeOperand o v s).inReads = s.inReads := by cases o <;> simp [writeOperand]
@[simp] theorem writeOperand_inPorts (o : Operand) (v : Byte) (s : State) : (writeOperand o v s).inPorts = s.inPorts := by cases o <;> simp [writeOperand]
@[simp] theorem writeOperand_outputs (o : Operand) (v : Byte) (s : State) : (writeOperand o v s).outputs = s.outputs := by cases o <;> simp [writeOperand]

@[simp] theorem fetchByte_a (s : State) : ((fetchByte s).2).a = s.a := rfl
@[simp] theorem fetchByte_b (s : State) : ((fetchByte s).2).b = s.b := rfl
@[simp] theorem fetchByte_c (s : State) : ((fetchByte s).2).c = s.c := rfl
@[simp] theorem fetchByte_d (s : State) : ((fetchByte s).2).d = s.d := rfl
@[simp] theorem fetchByte_e (s : State) : ((fetchByte s).2).e = s.e := rfl
@[simp] theorem fetchByte_h (s : State) : ((fetchByte s).2).h = s.h := rfl
@[simp] theorem fetchByte_l (s : State) : ((fetchByte s).2).l = s.l := rfl
@[simp] theorem fetchByte_sp (s : State) : ((fetchByte s).2).sp = s.sp := rfl
@[simp] theorem fetchByte_flags (s : State) : ((fetchByte s).2).flags = s.flags := rfl
@[simp] theorem fetchByte_inte (s : State) : ((fetchByte s).2).inte = s.inte := rfl
@[simp] theorem fetchByte_mem (s : State) : ((fetchByte s).2).mem = s.mem := rfl
@[simp] theorem fetchByte_halted (s : State) : ((fetchByte s).2).halted = s.halted := rfl
@[simp] theorem fetchByte_fault (s : State) : ((fetchByte s).2).fault = s.fault := rfl
@[simp] theorem fetchByte_inHandler (s : State) : ((fetchByte s).2).inHandler = s.inHandler := rfl
@[simp] theorem fetchByte_inReads (s : State) : ((fetchByte s).2).inReads = s.inReads := rfl
@[simp] theorem fetchByte_inPorts (s : State) : ((fetchByte s).2).inPorts = s.inPorts := rfl
@[simp] theorem fetchByte_outputs (s : State) : ((fetchByte s).2).outputs = s.outputs := rfl
@[simp] theorem fetchByte_pc (s : State) : ((fetchByte s).2).pc = s.pc + 1 := rfl

@[simp] theorem push16_a (v : Word) (s : State) : (push16 v s).a = s.a := rfl
@[simp] theorem push16_b (v : Word) (s : State) : (push16 v s).b = s.b := rfl
@[simp] theorem push16_c (v : Word) (s : State) : (push16 v s).c = s.c := rfl
@[simp] theorem push16_d (v : Word) (s : State) : (push16 v s).d = s.d := rfl
@[simp] theorem push16_e (v : Word) (s : State) : (push16 v s).e = s.e := rfl
@[simp] theorem push16_h (v : Word) (s : State) : (push16 v s).h = s.h := rfl
@[simp] theorem push16_l (v : Word) (s : State) : (push16 v s).l = s.l := rfl
@[simp] theorem push16_pc (v : Word) (s : State) : (push16 v s).pc = s.pc := rfl
@[simp] theorem push16_flags (v : Word) (s : State) : (push16 v s).flags = s.flags := rfl
@[simp] theorem push16_inte (v : Word) (s : State) : (push16 v s).inte = s.inte := rfl
@[simp] theorem push16_halted (v : Word) (s : State) : (push16 v s).halted = s.halted := rfl
@[simp] theorem push16_fault (v : Word) (s : State) : (push16 v s).fault = s.fault := rfl
@[simp] theorem push16_inHandler (v : Word) (s : State) : (push16 v s).inHandler = s.inHandler := rfl
@[simp] theorem push16_inReads (v : Word) (s : State) : (push16 v s).inReads = s.inReads := rfl
@[simp] theorem push16_inPorts (v : Word) (s : State) : (push16 v s).inPorts = s.inPorts := rfl
@[simp] theorem push16_outputs (v : Word) (s : State) : (push16 v s).outputs = s.outputs := rfl
@[simp] theorem push16_sp (v : Word) (s : State) : (push16 v s).sp = s.sp - 2 := by simp only [push16, memWrite_sp]; bv_omega
@[simp] theorem push16_mem (v : Word) (s : State) : (push16 v s).mem = 
    Memory.write (Memory.write s.mem (s.sp - 1).toNat (hiByte v)) (s.sp - 2).toNat (loByte v) := by
  have e : s.sp - 1 - 1 = s.sp - 2 := by bv_omega
  simp only [push16, memWrite_mem, memWrite_sp, e]

@[simp] theorem pop16_a (s : State) : ((pop16 s).2).a = s.a := rfl
@[simp] theorem pop16_b (s : State) : ((pop16 s).2).b = s.b := rfl
@[simp] theorem pop16_c (s : State) : ((pop16 s).2).c = s.c := rfl
@[simp] theorem pop16_d (s : State) : ((pop16 s).2).d = s.d := rfl
@[simp] theorem pop16_e (s : State) : ((pop16 s).2).e = s.e := rfl
@[simp] theorem pop16_h (s : State) : ((pop16 s).2).h = s.h := rfl
@[simp] theorem pop16_l (s : State) : ((pop16 s).2).l = s.l := rfl
@[simp] theorem pop16_pc (s : State) : ((pop16 s).2).pc = s.pc := rfl
@[simp] theorem pop16_flags (s : State) : ((pop16 s).2).flags = s.flags := rfl
@[simp] theorem pop16_inte (s : State) : ((pop16 s).2).inte = s.inte := rfl
@[simp] theorem pop16_mem (s : State) : ((pop16 s).2).mem = s.mem := rfl
@[simp] theorem pop16_halted (s : State) : ((pop16 s).2).halted = s.halted := rfl
@[simp] theorem pop16_fault (s : State) : ((pop16 s).2).fault = s.fault := rfl
@[simp] theorem pop16_inHandler (s : State) : ((pop16 s).2).inHandler = s.inHandler := rfl
@[simp] theorem pop16_inReads (s : State) : ((pop16 s).2).inReads = s.inReads := rfl
@[simp] theorem pop16_inPorts (s : State) : ((pop16 s).2).inPorts = s.inPorts := rfl
@[simp] theorem pop16_outputs (s : State) : ((pop16 s).2).outputs = s.outputs := rfl
@[simp] theorem pop16_sp (s : State) : ((pop16 s).2).sp = s.sp + 2 := by simp only [pop16]; bv_omega

@[simp] theorem ioRead_a (port : Byte) (s : State) : ((ioRead port s).2).a = s.a := rfl
@[simp] theorem ioRead_b (port : Byte) (s : State) : ((ioRead port s).2).b = s.b := rfl
@[simp] theorem ioRead_c (port : Byte) (s : State) : ((ioRead port s).2).c = s.c := rfl
@[simp] theorem ioRead_d (port : Byte) (s : State) : ((ioRead port s).2).d = s.d := rfl
@[simp] theorem ioRead_e (port : Byte) (s : State) : ((ioRead port s).2).e = s.e := rfl
@[simp] theorem ioRead_h (port : Byte) (s : State) : ((ioRead port s).2).h = s.h := rfl
@[simp] theorem ioRead_l (port : Byte) (s : State) : ((ioRead port s).2).l = s.l := rfl
@[simp] theorem ioRead_sp (port : Byte) (s : State) : ((ioRead port s).2).sp = s.sp := rfl
@[simp] theorem ioRead_pc (port : Byte) (s : State) : ((ioRead port s).2).pc = s.pc := rfl
@[simp] theorem ioRead_flags (port : Byte) (s : State) : ((ioRead port s).2).flags = s.flags := rfl
@[simp] theorem ioRead_inte (port : Byte) (s : State) : ((ioRead port s).2).inte = s.inte := rfl
@[simp] theorem ioRead_mem (port : Byte) (s : State) : ((ioRead port s).2).mem = s.mem := rfl
@[simp] theorem ioRead_halted (port : Byte) (s : State) : ((ioRead port s).2).halted = s.halted := rfl
@[simp] theorem ioRead_fault (port : Byte) (s : State) : ((ioRead port s).2).fault = s.fault := rfl
@[simp] theorem ioRead_outputs (port : Byte) (s : State) : ((ioRead port s).2).outputs = s.outputs := rfl
@[simp] theorem ioRead_inHandler (port : Byte) (s : State) : ((ioRead port s).2).inHandler = nextHandler s.inHandler := rfl
@[simp] theorem ioRead_inReads (port : Byte) (s : State) : ((ioRead port s).2).inReads = s.inReads + 1 := rfl
@[simp] theorem ioRead_inPorts (port : Byte) (s : State) : ((ioRead port s).2).inPorts = s.inPorts ++ [port] := rfl

@[simp] theorem ioWrite_a (port v : Byte) (s : State) : (ioWrite port v s).a = s.a := rfl
@[simp] theorem ioWrite_b (port v : Byte) (s : State) : (ioWrite port v s).b = s.b := rfl
@[simp] theorem ioWrite_c (port v : Byte) (s : State) : (ioWrite port v s).c = s.c := rfl
@[simp] theorem ioWrite_d (port v : Byte) (s : State) : (ioWrite port v s).d = s.d := rfl
@[simp] theorem ioWrite_e (port v : Byte) (s : State) : (ioWrite port v s).e = s.e := rfl
@[simp] theorem ioWrite_h (port v : Byte) (s : State) : (ioWrite port v s).h = s.h := rfl
@[simp] theorem ioWrite_l (port v : Byte) (s : State) : (ioWrite port v s).l = s.l := rfl
@[simp] theorem ioWrite_sp (port v : Byte) (s : State) : (ioWrite port v s).sp = s.sp := rfl
@[simp] theorem ioWrite_pc (port v : Byte) (s : State) : (ioWrite port v s).pc = s.pc := rfl
@[simp] theorem ioWrite_flags (port v : Byte) (s : State) : (ioWrite port v s).flags = s.flags := rfl
@[simp] theorem ioWrite_inte (port v : Byte) (s : State) : (ioWrite port v s).inte = s.inte := rfl
@[simp] theorem ioWrite_mem (port v : Byte) (s : State) : (ioWrite port v s).mem = s.mem := rfl
@[simp] theorem ioWrite_halted (port v : Byte) (s : State) : (ioWrite port v s).halted = s.halted := rfl
@[simp] theorem ioWrite_fault (port v : Byte) (s : State) : (ioWrite port v s).fault = s.fault := rfl
@[simp] theorem ioWrite_inHandler (port v : Byte) (s : State) : (ioWrite port v s).inHandler = s.inHandler := rfl
@[simp] theorem ioWrite_inReads (port v : Byte) (s : State) : (ioWrite port v s).inReads = s.inReads := rfl
@[simp] theorem ioWrite_inPorts (port v : Byte) (s : State) : (ioWrite port v s).inPorts = s.inPorts := rfl
@[simp] theorem ioWrite_outputs (port v : Byte) (s : State) : (ioWrite port v s).outputs = s.outputs ++ [(port, v)] := rfl

@[simp] theorem raiseFault_a (record : Fault) (s : State) : (raiseFault record s).a = s.a := rfl
@[simp] theorem raiseFault_b (record : Fault) (s : State) : (raiseFault record s).b = s.b := rfl
@[simp] theorem raiseFault_c (record : Fault) (s : State) : (raiseFault record s).c = s.c := rfl
@[simp] theorem raiseFault_d (record : Fault) (s : State) : (raiseFault record s).d = s.d := rfl
@[simp] theorem raiseFault_e (record : Fault) (s : State) : (raiseFault record s).e = s.e := rfl
@[simp] theorem raiseFault_h (record : Fault) (s : State) : (raiseFault record s).h = s.h := rfl
@[simp] theorem raiseFault_l (record : Fault) (s : State) : (raiseFault record s).l = s.l := rfl
@[simp] theorem raiseFault_sp (record : Fault) (s : State) : (raiseFault record s).sp = s.sp := rfl
@[simp] theorem raiseFault_pc (record : Fault) (s : State) : (raiseFault record s).pc = s.pc := rfl
@[simp] theorem raiseFault_flags (record : Fault) (s : State) : (raiseFault record s).flags = s.flags := rfl
@[simp] theorem raiseFault_inte (record : Fault) (s : State) : (raiseFault record s).inte = s.inte := rfl
@[simp] theorem raiseFault_mem (record : Fault) (s : State) : (raiseFault record s).mem = s.mem := rfl
@[simp] theorem raiseFault_halted (record : Fault) (s : State) : (raiseFault record s).halted = s.halted := rfl
@[simp] theorem raiseFault_inHandler (record : Fault) (s : State) : (raiseFault record s).inHandler = s.inHandler := rfl
@[simp] theorem raiseFault_inReads (record : Fault) (s : State) : (raiseFault record s).inReads = s.inReads := rfl
@[simp] theorem raiseFault_inPorts (record : Fault) (s : State) : (raiseFault record s).inPorts = s.inPorts := rfl
@[simp] theorem raiseFault_outputs (record : Fault) (s : State) : (raiseFault record s).outputs = s.outputs := rfl
@[simp] theorem raiseFault_fault (record : Fault) (s : State) : (raiseFault record s).fault = some record := rfl

@[simp] theorem raiseUnimplemented_a (op : Byte) (s : State) : (raiseUnimplemented op s).a = s.a := rfl
@[simp] theorem raiseUnimplemented_b (op : Byte) (s : State) : (raiseUnimplemented op s).b = s.b := rfl
@[simp] theorem raiseUnimplemented_c (op : Byte) (s : State) : (raiseUnimplemented op s).c = s.c := rfl
@[simp] theorem raiseUnimplemented_d (op : Byte) (s : State) : (raiseUnimplemented op s).d = s.d := rfl
@[simp] theorem raiseUnimplemented_e (op : Byte) (s : State) : (raiseUnimplemented op s).e = s.e := rfl
@[simp] theorem raiseUnimplemented_h (op : Byte) (s : State) : (raiseUnimplemented op s).h = s.h := rfl
@[simp] theorem raiseUnimplemented_l (op : Byte) (s : State) : (raiseUnimplemented op s).l = s.l := rfl
@[simp] theorem raiseUnimplemented_sp (op : Byte) (s : State) : (raiseUnimplemented op s).sp = s.sp := rfl
@[simp] theorem raiseUnimplemented_flags (op : Byte) (s : State) : (raiseUnimplemented op s).flags = s.flags := rfl
@[simp] theorem raiseUnimplemented_inte (op : Byte) (s : State) : (raiseUnimplemented op s).inte = s.inte := rfl
@[simp] theorem raiseUnimplemented_mem (op : Byte) (s : State) : (raiseUnimplemented op s).mem = s.mem := rfl
@[simp] theorem raiseUnimplemented_halted (op : Byte) (s : State) : (raiseUnimplemented op s).halted = s.halted := rfl
@[simp] theorem raiseUnimplemented_inHandler (op : Byte) (s : State) : (raiseUnimplemented op s).inHandler = s.inHandler := rfl
@[simp] theorem raiseUnimplemented_inReads (op : Byte) (s : State) : (raiseUnimplemented op s).inReads = s.inReads := rfl
@[simp] theorem raiseUnimplemented_inPorts (op : Byte) (s : State) : (raiseUnimplemented op s).inPorts = s.inPorts := rfl
@[simp] theorem raiseUnimplemented_outputs (op : Byte) (s : State) : (raiseUnimplemented op s).outputs = s.outputs := rfl
@[simp] theorem raiseUnimplemented_pc (op : Byte) (s : State) : (raiseUnimplemented op s).pc = s.pc - 1 := rfl
@[simp] theorem raiseUnimplemented_fault (op : Byte) (s : State) : (raiseUnimplemented op s).fault = some (.unimplementedOpcode op (s.pc - 1)) := rfl

@[simp] theorem jumpTo_a (x : Word) (s : State) : (jumpTo x s).a = s.a := rfl
@[simp] theorem jumpTo_b (x : Word) (s : State) : (jumpTo x s).b = s.b := rfl
@[simp] theorem jumpTo_c (x : Word) (s : State) : (jumpTo x s).c = s.c := rfl
@[simp] theorem jumpTo_d (x : Word) (s : State) : (jumpTo x s).d = s.d := rfl
@[simp] theorem jumpTo_e (x : Word) (s : State) : (jumpTo x s).e = s.e := rfl
@[simp] theorem jumpTo_h (x : Word) (s : State) : (jumpTo x s).h = s.h := rfl
@[simp] theorem jumpTo_l (x : Word) (s : State) : (jumpTo x s).l = s.l := rfl
@[simp] theorem jumpTo_sp (x : Word) (s : State) : (jumpTo x s).sp = s.sp := rfl
@[simp] theorem jumpTo_flags (x : Word) (s : State) : (jumpTo x s).flags = s.flags := rfl
@[simp] theorem jumpTo_inte (x : Word) (s : State) : (jumpTo x s).inte = s.inte := rfl
@[simp] theorem jumpTo_mem (x : Word) (s : State) : (jumpTo x s).mem = s.mem := rfl
@[simp] theorem jumpTo_halted (x : Word) (s : State) : (jumpTo x s).halted = s.halted := rfl
@[simp] theorem jumpTo_fault (x : Word) (s : State) : (jumpTo x s).fault = s.fault := rfl
@[simp] theorem jumpTo_inHandler (x : Word) (s : State) : (jumpTo x s).inHandler = s.inHandler := rfl
@[simp] theorem jumpTo_inReads (x : Word) (s : State) : (jumpTo x s).inReads = s.inReads := rfl
@[simp] theorem jumpTo_inPorts (x : Word) (s : State) : (jumpTo x s).inPorts = s.inPorts := rfl
@[simp] theorem jumpTo_outputs (x : Word) (s : State) : (jumpTo x s).outputs = s.outputs := rfl
@[simp] theorem jumpTo_pc (x : Word) (s : State) : (jumpTo x s).pc = x := rfl

end Sys2Proof.Machine
end

