-- ==== Sys2Proof/Laws/Operations.lean ====
section
/-! SUPPORT. What the shared operations do, said once: the bytes a push stores, the two halves of a word, the carry and
borrow tests in plain arithmetic, and a conditional transfer. -/

namespace Sys2Proof.Machine

/-- Every address after a push (R58). -/
theorem memRead_push16 (v : Word) (s : State) (x : Word) : memRead x (push16 v s) =
    if x = s.sp - 2 then loByte v else if x = s.sp - 1 then hiByte v else memRead x s := by
  simp only [memRead, push16_mem, Memory.read_write, BitVec.toNat_inj]

/-- The high byte of a word in plain arithmetic. -/
theorem hiByte_eq (v : Word) : hiByte v = BitVec.ofNat 8 (v.toNat / 256) := by
  apply BitVec.eq_of_toNat_eq
  simp [hiByte, BitVec.extractLsb'_toNat, Nat.shiftRight_eq_div_pow]

/-- The low byte of a word in plain arithmetic. -/
theorem loByte_eq (v : Word) : loByte v = BitVec.ofNat 8 v.toNat := by
  apply BitVec.eq_of_toNat_eq
  simp [loByte, BitVec.extractLsb'_toNat]

/-- Bit 8 of a sum of two bytes and a carry is "256 or more" (R113). -/
theorem carryAdd_sumOf (a v : Byte) (c : Bool) :
    carryAdd (sumOf a v c) = decide (256 ≤ a.toNat + v.toNat + c.toNat) := by
  have := a.isLt
  have := v.isLt
  have := c.toNat_le
  simp only [carryAdd, sumOf, Nat.testBit_eq_decide_div_mod_eq]
  congr 1
  simp only [eq_iff_iff]
  omega

/-- A negative difference is "less than" (R114). -/
theorem borrow_differenceOf (a v : Byte) (c : Bool) :
    borrow (differenceOf a v c) = decide (a.toNat < v.toNat + c.toNat) := by
  simp only [borrow, differenceOf]
  congr 1
  simp only [eq_iff_iff]
  omega

/-- The carry out of bit 3 of a + ~b + (1 - c) is "no borrow from bit 4" (R116). -/
theorem auxSub_eq (a v : Byte) (c : Bool) : auxSub a v c = decide (v.toNat % 16 + c.toNat ≤ a.toNat % 16) := by
  have := v.isLt
  have := c.toNat_le
  simp only [auxSub, BitVec.toNat_not]
  congr 1
  simp only [eq_iff_iff]
  omega

/-- The 8-bit difference in plain arithmetic (R119). -/
theorem sub8_eq (a v : Byte) (c : Bool) : sub8 a v c = BitVec.ofNat 8 ((a.toNat + 512 - v.toNat - c.toNat) % 256) := by
  have := a.isLt
  have := v.isLt
  have := c.toNat_le
  apply BitVec.eq_of_toNat_eq
  simp only [sub8, differenceOf, BitVec.toNat_ofInt, BitVec.toNat_ofNat]
  omega

/-- A conditional transfer whose condition holds. -/
theorem onCond_taken {cond : Cond} {s : State} (f : State → State) (h : condHolds cond s.flags = true) :
    onCond cond f s = f s := by simp [onCond, h]

/-- A conditional transfer whose condition does not hold. -/
theorem onCond_not_taken {cond : Cond} {s : State} (f : State → State) (h : condHolds cond s.flags = false) :
    onCond cond f s = s := by simp [onCond, h]

@[simp] theorem inputByte_unset {s : State} (port : Byte) (h : s.inHandler = .unset) : inputByte port s = 0x00#8 := by
  simp [inputByte, h]

@[simp] theorem inputByte_fixed {s : State} {answers : PortAnswers} (port : Byte) (h : s.inHandler = .fixed answers) :
    inputByte port s = answerAt answers port := by simp [inputByte, h]

@[simp] theorem inputByte_varying {s : State} {answers : PortAnswers} {moments : List PortAnswers} (port : Byte)
    (h : s.inHandler = .varying (answers :: moments)) : inputByte port s = answerAt answers port := by
  simp [inputByte, h]

@[simp] theorem nextHandler_unset : nextHandler .unset = .unset := rfl

@[simp] theorem nextHandler_fixed (answers : PortAnswers) : nextHandler (.fixed answers) = .fixed answers := rfl

@[simp] theorem nextHandler_varying (moments : List PortAnswers) :
    nextHandler (.varying moments) = .varying moments.tail := rfl

/-- What a load puts at each address of the image (R74). -/
theorem Memory.read_load_inside (bytes : List Byte) (m : Memory) (n k : Nat) (v : Byte) (h : bytes[k]? = some v) :
    Memory.read (Memory.load m n bytes) (n + k) = v := by
  induction bytes generalizing m n k with
  | nil => simp at h
  | cons w bytes ih =>
    cases k with
    | zero =>
      simp only [List.getElem?_cons_zero, Option.some.injEq] at h
      rw [Memory.load, Memory.read_load_outside _ _ _ _ (by omega), Memory.read_write]
      simp [h]
    | succ k =>
      rw [Memory.load, show n + (k + 1) = n + 1 + k by omega]
      exact ih _ _ _ (by simpa using h)

end Sys2Proof.Machine
end

