-- ==== Sys2Proof/Laws/PerInstr.lean ====
section
/-! SUPPORT. For every constructor: its encoding has the number of bytes that R83's lists give its opcode. -/

namespace Sys2Proof.Laws.EncodedLength

/-- The encoding of an instruction is as long as R83 says of its opcode byte. -/
def Statement (i : Instr) : Prop := (encode i).length = instrLength (opcodeOf i)

theorem nop : Statement .nop := by show 1 = instrLength 0x00#8; rfl
theorem lxiB (d16 : Word) : Statement (.lxiB d16) := by show 3 = instrLength 0x01#8; rfl
theorem staxB : Statement .staxB := by show 1 = instrLength 0x02#8; rfl
theorem inxB : Statement .inxB := by show 1 = instrLength 0x03#8; rfl
theorem inrB : Statement .inrB := by show 1 = instrLength 0x04#8; rfl
theorem dcrB : Statement .dcrB := by show 1 = instrLength 0x05#8; rfl
theorem mviB (d8 : Byte) : Statement (.mviB d8) := by show 2 = instrLength 0x06#8; rfl
theorem rlc : Statement .rlc := by show 1 = instrLength 0x07#8; rfl
theorem undefined08 : Statement .undefined08 := by show 1 = instrLength 0x08#8; rfl
theorem dadB : Statement .dadB := by show 1 = instrLength 0x09#8; rfl
theorem ldaxB : Statement .ldaxB := by show 1 = instrLength 0x0A#8; rfl
theorem dcxB : Statement .dcxB := by show 1 = instrLength 0x0B#8; rfl
theorem inrC : Statement .inrC := by show 1 = instrLength 0x0C#8; rfl
theorem dcrC : Statement .dcrC := by show 1 = instrLength 0x0D#8; rfl
theorem mviC (d8 : Byte) : Statement (.mviC d8) := by show 2 = instrLength 0x0E#8; rfl
theorem rrc : Statement .rrc := by show 1 = instrLength 0x0F#8; rfl
theorem undefined10 : Statement .undefined10 := by show 1 = instrLength 0x10#8; rfl
theorem lxiD (d16 : Word) : Statement (.lxiD d16) := by show 3 = instrLength 0x11#8; rfl
theorem staxD : Statement .staxD := by show 1 = instrLength 0x12#8; rfl
theorem inxD : Statement .inxD := by show 1 = instrLength 0x13#8; rfl
theorem inrD : Statement .inrD := by show 1 = instrLength 0x14#8; rfl
theorem dcrD : Statement .dcrD := by show 1 = instrLength 0x15#8; rfl
theorem mviD (d8 : Byte) : Statement (.mviD d8) := by show 2 = instrLength 0x16#8; rfl
theorem ral : Statement .ral := by show 1 = instrLength 0x17#8; rfl
theorem undefined18 : Statement .undefined18 := by show 1 = instrLength 0x18#8; rfl
theorem dadD : Statement .dadD := by show 1 = instrLength 0x19#8; rfl
theorem ldaxD : Statement .ldaxD := by show 1 = instrLength 0x1A#8; rfl
theorem dcxD : Statement .dcxD := by show 1 = instrLength 0x1B#8; rfl
theorem inrE : Statement .inrE := by show 1 = instrLength 0x1C#8; rfl
theorem dcrE : Statement .dcrE := by show 1 = instrLength 0x1D#8; rfl
theorem mviE (d8 : Byte) : Statement (.mviE d8) := by show 2 = instrLength 0x1E#8; rfl
theorem rar : Statement .rar := by show 1 = instrLength 0x1F#8; rfl
theorem undefined20 : Statement .undefined20 := by show 1 = instrLength 0x20#8; rfl
theorem lxiH (d16 : Word) : Statement (.lxiH d16) := by show 3 = instrLength 0x21#8; rfl
theorem shld (a16 : Word) : Statement (.shld a16) := by show 3 = instrLength 0x22#8; rfl
theorem inxH : Statement .inxH := by show 1 = instrLength 0x23#8; rfl
theorem inrH : Statement .inrH := by show 1 = instrLength 0x24#8; rfl
theorem dcrH : Statement .dcrH := by show 1 = instrLength 0x25#8; rfl
theorem mviH (d8 : Byte) : Statement (.mviH d8) := by show 2 = instrLength 0x26#8; rfl
theorem daa : Statement .daa := by show 1 = instrLength 0x27#8; rfl
theorem undefined28 : Statement .undefined28 := by show 1 = instrLength 0x28#8; rfl
theorem dadH : Statement .dadH := by show 1 = instrLength 0x29#8; rfl
theorem lhld (a16 : Word) : Statement (.lhld a16) := by show 3 = instrLength 0x2A#8; rfl
theorem dcxH : Statement .dcxH := by show 1 = instrLength 0x2B#8; rfl
theorem inrL : Statement .inrL := by show 1 = instrLength 0x2C#8; rfl
theorem dcrL : Statement .dcrL := by show 1 = instrLength 0x2D#8; rfl
theorem mviL (d8 : Byte) : Statement (.mviL d8) := by show 2 = instrLength 0x2E#8; rfl
theorem cma : Statement .cma := by show 1 = instrLength 0x2F#8; rfl
theorem undefined30 : Statement .undefined30 := by show 1 = instrLength 0x30#8; rfl
theorem lxiSp (d16 : Word) : Statement (.lxiSp d16) := by show 3 = instrLength 0x31#8; rfl
theorem sta (a16 : Word) : Statement (.sta a16) := by show 3 = instrLength 0x32#8; rfl
theorem inxSp : Statement .inxSp := by show 1 = instrLength 0x33#8; rfl
theorem inrM : Statement .inrM := by show 1 = instrLength 0x34#8; rfl
theorem dcrM : Statement .dcrM := by show 1 = instrLength 0x35#8; rfl
theorem mviM (d8 : Byte) : Statement (.mviM d8) := by show 2 = instrLength 0x36#8; rfl
theorem stc : Statement .stc := by show 1 = instrLength 0x37#8; rfl
theorem undefined38 : Statement .undefined38 := by show 1 = instrLength 0x38#8; rfl
theorem dadSp : Statement .dadSp := by show 1 = instrLength 0x39#8; rfl
theorem lda (a16 : Word) : Statement (.lda a16) := by show 3 = instrLength 0x3A#8; rfl
theorem dcxSp : Statement .dcxSp := by show 1 = instrLength 0x3B#8; rfl
theorem inrA : Statement .inrA := by show 1 = instrLength 0x3C#8; rfl
theorem dcrA : Statement .dcrA := by show 1 = instrLength 0x3D#8; rfl
theorem mviA (d8 : Byte) : Statement (.mviA d8) := by show 2 = instrLength 0x3E#8; rfl
theorem cmc : Statement .cmc := by show 1 = instrLength 0x3F#8; rfl
theorem movBB : Statement .movBB := by show 1 = instrLength 0x40#8; rfl
theorem movBC : Statement .movBC := by show 1 = instrLength 0x41#8; rfl
theorem movBD : Statement .movBD := by show 1 = instrLength 0x42#8; rfl
theorem movBE : Statement .movBE := by show 1 = instrLength 0x43#8; rfl
theorem movBH : Statement .movBH := by show 1 = instrLength 0x44#8; rfl
theorem movBL : Statement .movBL := by show 1 = instrLength 0x45#8; rfl
theorem movBM : Statement .movBM := by show 1 = instrLength 0x46#8; rfl
theorem movBA : Statement .movBA := by show 1 = instrLength 0x47#8; rfl
theorem movCB : Statement .movCB := by show 1 = instrLength 0x48#8; rfl
theorem movCC : Statement .movCC := by show 1 = instrLength 0x49#8; rfl
theorem movCD : Statement .movCD := by show 1 = instrLength 0x4A#8; rfl
theorem movCE : Statement .movCE := by show 1 = instrLength 0x4B#8; rfl
theorem movCH : Statement .movCH := by show 1 = instrLength 0x4C#8; rfl
theorem movCL : Statement .movCL := by show 1 = instrLength 0x4D#8; rfl
theorem movCM : Statement .movCM := by show 1 = instrLength 0x4E#8; rfl
theorem movCA : Statement .movCA := by show 1 = instrLength 0x4F#8; rfl
theorem movDB : Statement .movDB := by show 1 = instrLength 0x50#8; rfl
theorem movDC : Statement .movDC := by show 1 = instrLength 0x51#8; rfl
theorem movDD : Statement .movDD := by show 1 = instrLength 0x52#8; rfl
theorem movDE : Statement .movDE := by show 1 = instrLength 0x53#8; rfl
theorem movDH : Statement .movDH := by show 1 = instrLength 0x54#8; rfl
theorem movDL : Statement .movDL := by show 1 = instrLength 0x55#8; rfl
theorem movDM : Statement .movDM := by show 1 = instrLength 0x56#8; rfl
theorem movDA : Statement .movDA := by show 1 = instrLength 0x57#8; rfl
theorem movEB : Statement .movEB := by show 1 = instrLength 0x58#8; rfl
theorem movEC : Statement .movEC := by show 1 = instrLength 0x59#8; rfl
theorem movED : Statement .movED := by show 1 = instrLength 0x5A#8; rfl
theorem movEE : Statement .movEE := by show 1 = instrLength 0x5B#8; rfl
theorem movEH : Statement .movEH := by show 1 = instrLength 0x5C#8; rfl
theorem movEL : Statement .movEL := by show 1 = instrLength 0x5D#8; rfl
theorem movEM : Statement .movEM := by show 1 = instrLength 0x5E#8; rfl
theorem movEA : Statement .movEA := by show 1 = instrLength 0x5F#8; rfl
theorem movHB : Statement .movHB := by show 1 = instrLength 0x60#8; rfl
theorem movHC : Statement .movHC := by show 1 = instrLength 0x61#8; rfl
theorem movHD : Statement .movHD := by show 1 = instrLength 0x62#8; rfl
theorem movHE : Statement .movHE := by show 1 = instrLength 0x63#8; rfl
theorem movHH : Statement .movHH := by show 1 = instrLength 0x64#8; rfl
theorem movHL : Statement .movHL := by show 1 = instrLength 0x65#8; rfl
theorem movHM : Statement .movHM := by show 1 = instrLength 0x66#8; rfl
theorem movHA : Statement .movHA := by show 1 = instrLength 0x67#8; rfl
theorem movLB : Statement .movLB := by show 1 = instrLength 0x68#8; rfl
theorem movLC : Statement .movLC := by show 1 = instrLength 0x69#8; rfl
theorem movLD : Statement .movLD := by show 1 = instrLength 0x6A#8; rfl
theorem movLE : Statement .movLE := by show 1 = instrLength 0x6B#8; rfl
theorem movLH : Statement .movLH := by show 1 = instrLength 0x6C#8; rfl
theorem movLL : Statement .movLL := by show 1 = instrLength 0x6D#8; rfl
theorem movLM : Statement .movLM := by show 1 = instrLength 0x6E#8; rfl
theorem movLA : Statement .movLA := by show 1 = instrLength 0x6F#8; rfl
theorem movMB : Statement .movMB := by show 1 = instrLength 0x70#8; rfl
theorem movMC : Statement .movMC := by show 1 = instrLength 0x71#8; rfl
theorem movMD : Statement .movMD := by show 1 = instrLength 0x72#8; rfl
theorem movME : Statement .movME := by show 1 = instrLength 0x73#8; rfl
theorem movMH : Statement .movMH := by show 1 = instrLength 0x74#8; rfl
theorem movML : Statement .movML := by show 1 = instrLength 0x75#8; rfl
theorem hlt : Statement .hlt := by show 1 = instrLength 0x76#8; rfl
theorem movMA : Statement .movMA := by show 1 = instrLength 0x77#8; rfl
theorem movAB : Statement .movAB := by show 1 = instrLength 0x78#8; rfl
theorem movAC : Statement .movAC := by show 1 = instrLength 0x79#8; rfl
theorem movAD : Statement .movAD := by show 1 = instrLength 0x7A#8; rfl
theorem movAE : Statement .movAE := by show 1 = instrLength 0x7B#8; rfl
theorem movAH : Statement .movAH := by show 1 = instrLength 0x7C#8; rfl
theorem movAL : Statement .movAL := by show 1 = instrLength 0x7D#8; rfl
theorem movAM : Statement .movAM := by show 1 = instrLength 0x7E#8; rfl
theorem movAA : Statement .movAA := by show 1 = instrLength 0x7F#8; rfl
theorem addB : Statement .addB := by show 1 = instrLength 0x80#8; rfl
theorem addC : Statement .addC := by show 1 = instrLength 0x81#8; rfl
theorem addD : Statement .addD := by show 1 = instrLength 0x82#8; rfl
theorem addE : Statement .addE := by show 1 = instrLength 0x83#8; rfl
theorem addH : Statement .addH := by show 1 = instrLength 0x84#8; rfl
theorem addL : Statement .addL := by show 1 = instrLength 0x85#8; rfl
theorem addM : Statement .addM := by show 1 = instrLength 0x86#8; rfl
theorem addA : Statement .addA := by show 1 = instrLength 0x87#8; rfl
theorem adcB : Statement .adcB := by show 1 = instrLength 0x88#8; rfl
theorem adcC : Statement .adcC := by show 1 = instrLength 0x89#8; rfl
theorem adcD : Statement .adcD := by show 1 = instrLength 0x8A#8; rfl
theorem adcE : Statement .adcE := by show 1 = instrLength 0x8B#8; rfl
theorem adcH : Statement .adcH := by show 1 = instrLength 0x8C#8; rfl
theorem adcL : Statement .adcL := by show 1 = instrLength 0x8D#8; rfl
theorem adcM : Statement .adcM := by show 1 = instrLength 0x8E#8; rfl
theorem adcA : Statement .adcA := by show 1 = instrLength 0x8F#8; rfl
theorem subB : Statement .subB := by show 1 = instrLength 0x90#8; rfl
theorem subC : Statement .subC := by show 1 = instrLength 0x91#8; rfl
theorem subD : Statement .subD := by show 1 = instrLength 0x92#8; rfl
theorem subE : Statement .subE := by show 1 = instrLength 0x93#8; rfl
theorem subH : Statement .subH := by show 1 = instrLength 0x94#8; rfl
theorem subL : Statement .subL := by show 1 = instrLength 0x95#8; rfl
theorem subM : Statement .subM := by show 1 = instrLength 0x96#8; rfl
theorem subA : Statement .subA := by show 1 = instrLength 0x97#8; rfl
theorem sbbB : Statement .sbbB := by show 1 = instrLength 0x98#8; rfl
theorem sbbC : Statement .sbbC := by show 1 = instrLength 0x99#8; rfl
theorem sbbD : Statement .sbbD := by show 1 = instrLength 0x9A#8; rfl
theorem sbbE : Statement .sbbE := by show 1 = instrLength 0x9B#8; rfl
theorem sbbH : Statement .sbbH := by show 1 = instrLength 0x9C#8; rfl
theorem sbbL : Statement .sbbL := by show 1 = instrLength 0x9D#8; rfl
theorem sbbM : Statement .sbbM := by show 1 = instrLength 0x9E#8; rfl
theorem sbbA : Statement .sbbA := by show 1 = instrLength 0x9F#8; rfl
theorem anaB : Statement .anaB := by show 1 = instrLength 0xA0#8; rfl
theorem anaC : Statement .anaC := by show 1 = instrLength 0xA1#8; rfl
theorem anaD : Statement .anaD := by show 1 = instrLength 0xA2#8; rfl
theorem anaE : Statement .anaE := by show 1 = instrLength 0xA3#8; rfl
theorem anaH : Statement .anaH := by show 1 = instrLength 0xA4#8; rfl
theorem anaL : Statement .anaL := by show 1 = instrLength 0xA5#8; rfl
theorem anaM : Statement .anaM := by show 1 = instrLength 0xA6#8; rfl
theorem anaA : Statement .anaA := by show 1 = instrLength 0xA7#8; rfl
theorem xraB : Statement .xraB := by show 1 = instrLength 0xA8#8; rfl
theorem xraC : Statement .xraC := by show 1 = instrLength 0xA9#8; rfl
theorem xraD : Statement .xraD := by show 1 = instrLength 0xAA#8; rfl
theorem xraE : Statement .xraE := by show 1 = instrLength 0xAB#8; rfl
theorem xraH : Statement .xraH := by show 1 = instrLength 0xAC#8; rfl
theorem xraL : Statement .xraL := by show 1 = instrLength 0xAD#8; rfl
theorem xraM : Statement .xraM := by show 1 = instrLength 0xAE#8; rfl
theorem xraA : Statement .xraA := by show 1 = instrLength 0xAF#8; rfl
theorem oraB : Statement .oraB := by show 1 = instrLength 0xB0#8; rfl
theorem oraC : Statement .oraC := by show 1 = instrLength 0xB1#8; rfl
theorem oraD : Statement .oraD := by show 1 = instrLength 0xB2#8; rfl
theorem oraE : Statement .oraE := by show 1 = instrLength 0xB3#8; rfl
theorem oraH : Statement .oraH := by show 1 = instrLength 0xB4#8; rfl
theorem oraL : Statement .oraL := by show 1 = instrLength 0xB5#8; rfl
theorem oraM : Statement .oraM := by show 1 = instrLength 0xB6#8; rfl
theorem oraA : Statement .oraA := by show 1 = instrLength 0xB7#8; rfl
theorem cmpB : Statement .cmpB := by show 1 = instrLength 0xB8#8; rfl
theorem cmpC : Statement .cmpC := by show 1 = instrLength 0xB9#8; rfl
theorem cmpD : Statement .cmpD := by show 1 = instrLength 0xBA#8; rfl
theorem cmpE : Statement .cmpE := by show 1 = instrLength 0xBB#8; rfl
theorem cmpH : Statement .cmpH := by show 1 = instrLength 0xBC#8; rfl
theorem cmpL : Statement .cmpL := by show 1 = instrLength 0xBD#8; rfl
theorem cmpM : Statement .cmpM := by show 1 = instrLength 0xBE#8; rfl
theorem cmpA : Statement .cmpA := by show 1 = instrLength 0xBF#8; rfl
theorem rnz : Statement .rnz := by show 1 = instrLength 0xC0#8; rfl
theorem popB : Statement .popB := by show 1 = instrLength 0xC1#8; rfl
theorem jnz (a16 : Word) : Statement (.jnz a16) := by show 3 = instrLength 0xC2#8; rfl
theorem jmp (a16 : Word) : Statement (.jmp a16) := by show 3 = instrLength 0xC3#8; rfl
theorem cnz (a16 : Word) : Statement (.cnz a16) := by show 3 = instrLength 0xC4#8; rfl
theorem pushB : Statement .pushB := by show 1 = instrLength 0xC5#8; rfl
theorem adi (d8 : Byte) : Statement (.adi d8) := by show 2 = instrLength 0xC6#8; rfl
theorem rst0 : Statement .rst0 := by show 1 = instrLength 0xC7#8; rfl
theorem rz : Statement .rz := by show 1 = instrLength 0xC8#8; rfl
theorem ret : Statement .ret := by show 1 = instrLength 0xC9#8; rfl
theorem jz (a16 : Word) : Statement (.jz a16) := by show 3 = instrLength 0xCA#8; rfl
theorem undefinedCB : Statement .undefinedCB := by show 1 = instrLength 0xCB#8; rfl
theorem cz (a16 : Word) : Statement (.cz a16) := by show 3 = instrLength 0xCC#8; rfl
theorem call (a16 : Word) : Statement (.call a16) := by show 3 = instrLength 0xCD#8; rfl
theorem aci (d8 : Byte) : Statement (.aci d8) := by show 2 = instrLength 0xCE#8; rfl
theorem rst1 : Statement .rst1 := by show 1 = instrLength 0xCF#8; rfl
theorem rnc : Statement .rnc := by show 1 = instrLength 0xD0#8; rfl
theorem popD : Statement .popD := by show 1 = instrLength 0xD1#8; rfl
theorem jnc (a16 : Word) : Statement (.jnc a16) := by show 3 = instrLength 0xD2#8; rfl
theorem outPort (port : Byte) : Statement (.outPort port) := by show 2 = instrLength 0xD3#8; rfl
theorem cnc (a16 : Word) : Statement (.cnc a16) := by show 3 = instrLength 0xD4#8; rfl
theorem pushD : Statement .pushD := by show 1 = instrLength 0xD5#8; rfl
theorem sui (d8 : Byte) : Statement (.sui d8) := by show 2 = instrLength 0xD6#8; rfl
theorem rst2 : Statement .rst2 := by show 1 = instrLength 0xD7#8; rfl
theorem rc : Statement .rc := by show 1 = instrLength 0xD8#8; rfl
theorem undefinedD9 : Statement .undefinedD9 := by show 1 = instrLength 0xD9#8; rfl
theorem jc (a16 : Word) : Statement (.jc a16) := by show 3 = instrLength 0xDA#8; rfl
theorem inPort (port : Byte) : Statement (.inPort port) := by show 2 = instrLength 0xDB#8; rfl
theorem cc (a16 : Word) : Statement (.cc a16) := by show 3 = instrLength 0xDC#8; rfl
theorem undefinedDD : Statement .undefinedDD := by show 1 = instrLength 0xDD#8; rfl
theorem sbi (d8 : Byte) : Statement (.sbi d8) := by show 2 = instrLength 0xDE#8; rfl
theorem rst3 : Statement .rst3 := by show 1 = instrLength 0xDF#8; rfl
theorem rpo : Statement .rpo := by show 1 = instrLength 0xE0#8; rfl
theorem popH : Statement .popH := by show 1 = instrLength 0xE1#8; rfl
theorem jpo (a16 : Word) : Statement (.jpo a16) := by show 3 = instrLength 0xE2#8; rfl
theorem xthl : Statement .xthl := by show 1 = instrLength 0xE3#8; rfl
theorem cpo (a16 : Word) : Statement (.cpo a16) := by show 3 = instrLength 0xE4#8; rfl
theorem pushH : Statement .pushH := by show 1 = instrLength 0xE5#8; rfl
theorem ani (d8 : Byte) : Statement (.ani d8) := by show 2 = instrLength 0xE6#8; rfl
theorem rst4 : Statement .rst4 := by show 1 = instrLength 0xE7#8; rfl
theorem rpe : Statement .rpe := by show 1 = instrLength 0xE8#8; rfl
theorem pchl : Statement .pchl := by show 1 = instrLength 0xE9#8; rfl
theorem jpe (a16 : Word) : Statement (.jpe a16) := by show 3 = instrLength 0xEA#8; rfl
theorem xchg : Statement .xchg := by show 1 = instrLength 0xEB#8; rfl
theorem cpe (a16 : Word) : Statement (.cpe a16) := by show 3 = instrLength 0xEC#8; rfl
theorem undefinedED : Statement .undefinedED := by show 1 = instrLength 0xED#8; rfl
theorem xri (d8 : Byte) : Statement (.xri d8) := by show 2 = instrLength 0xEE#8; rfl
theorem rst5 : Statement .rst5 := by show 1 = instrLength 0xEF#8; rfl
theorem rp : Statement .rp := by show 1 = instrLength 0xF0#8; rfl
theorem popPsw : Statement .popPsw := by show 1 = instrLength 0xF1#8; rfl
theorem jp (a16 : Word) : Statement (.jp a16) := by show 3 = instrLength 0xF2#8; rfl
theorem di : Statement .di := by show 1 = instrLength 0xF3#8; rfl
theorem cp (a16 : Word) : Statement (.cp a16) := by show 3 = instrLength 0xF4#8; rfl
theorem pushPsw : Statement .pushPsw := by show 1 = instrLength 0xF5#8; rfl
theorem ori (d8 : Byte) : Statement (.ori d8) := by show 2 = instrLength 0xF6#8; rfl
theorem rst6 : Statement .rst6 := by show 1 = instrLength 0xF7#8; rfl
theorem rm : Statement .rm := by show 1 = instrLength 0xF8#8; rfl
theorem sphl : Statement .sphl := by show 1 = instrLength 0xF9#8; rfl
theorem jm (a16 : Word) : Statement (.jm a16) := by show 3 = instrLength 0xFA#8; rfl
theorem ei : Statement .ei := by show 1 = instrLength 0xFB#8; rfl
theorem cm (a16 : Word) : Statement (.cm a16) := by show 3 = instrLength 0xFC#8; rfl
theorem undefinedFD : Statement .undefinedFD := by show 1 = instrLength 0xFD#8; rfl
theorem cpi (d8 : Byte) : Statement (.cpi d8) := by show 2 = instrLength 0xFE#8; rfl
theorem rst7 : Statement .rst7 := by show 1 = instrLength 0xFF#8; rfl

end Sys2Proof.Laws.EncodedLength
end

