-- ==== Sys2Proof/Laws/Step.lean ====
section
/-! SUPPORT. What a fetch and a step can do, said once. -/

namespace Sys2Proof.Machine

/-- The instruction fetched has the byte at PC as its opcode. -/
theorem fetchInstr_opcode (s : State) : opcodeOf (fetchInstr s).1 = memRead s.pc s := by
  have h := gridCell_agrees (memRead s.pc s)
  simp only [fetchInstr, fetchByte]
  cases hc : gridCell (memRead s.pc s) with
  | f1 i => rw [hc] at h; simp only [GridCell.Agrees] at h; simp [opcodeOf, h]
  | f2 mk => rw [hc] at h; simp only [GridCell.Agrees] at h; simp [opcodeOf, h]
  | f3 mk => rw [hc] at h; simp only [GridCell.Agrees] at h; simp [opcodeOf, fetchWord, h]

/-- A fetch moves PC past the instruction's bytes and changes nothing else. -/
theorem fetchInstr_state (s : State) :
    (fetchInstr s).2 = { s with pc := s.pc + BitVec.ofNat 16 (encode (fetchInstr s).1).length } := by
  have h := gridCell_agrees (memRead s.pc s)
  simp only [fetchInstr, fetchByte]
  cases hc : gridCell (memRead s.pc s) with
  | f1 i => rw [hc] at h; simp only [GridCell.Agrees] at h; simp [h]
  | f2 mk => rw [hc] at h; simp only [GridCell.Agrees] at h; simp [h, BitVec.add_assoc]
  | f3 mk =>
    rw [hc] at h; simp only [GridCell.Agrees] at h; simp [fetchWord, fetchByte, h, BitVec.add_assoc]

/-- The fetch and the decoder read the same instruction. -/
theorem decode_bytesAtPc (s : State) : ∃ rest, decode (bytesAtPc s) = .ok ((fetchInstr s).1, rest) := by
  simp only [bytesAtPc, decode, fetchInstr, fetchByte]
  cases gridCell (memRead s.pc s) with
  | f1 i => exact ⟨_, rfl⟩
  | f2 mk => exact ⟨_, rfl⟩
  | f3 mk => exact ⟨[], by simp [fetchWord, fetchByte, memRead, BitVec.add_assoc]⟩

/-- The two kinds of step: an ended core answers its own state, a running core executes what it fetched. -/
theorem step_cases {s t : State} (h : step s = .next t) :
    (¬ Running s ∧ t = s) ∨ (Running s ∧ exec (fetchInstr s).1 (fetchInstr s).2 = .next t) := by
  unfold step at h
  split at h
  · next hf => exact .inl ⟨fun hr => by simp [hr.1] at hf, (Host.Outcome.next.inj h).symm⟩
  · next _ hh => exact .inl ⟨fun hr => by simp [hr.2] at hh, (Host.Outcome.next.inj h).symm⟩
  · next hf hh => exact .inr ⟨⟨hf, hh⟩, h⟩

/-- A running core's step. -/
theorem step_running {s : State} (h : Running s) : step s = exec (fetchInstr s).1 (fetchInstr s).2 := by
  simp [step, h.1, h.2]

/-- A store keeps the canonical form of memory. -/
theorem memWrite_wf (x : Word) (v : Byte) (s : State) (h : Memory.wf s.mem = true) :
    Memory.wf (memWrite x v s).mem = true :=
  Memory.write_wf _ _ _ h x.isLt

/-- A push keeps the canonical form of memory. -/
theorem push16_wf (v : Word) (s : State) (h : Memory.wf s.mem = true) : Memory.wf (push16 v s).mem = true :=
  memWrite_wf _ _ _ (memWrite_wf _ _ { s with sp := s.sp - 1 } h)

/-- Writing an operand keeps the canonical form of memory. -/
theorem writeOperand_wf (o : Operand) (v : Byte) (s : State) (h : Memory.wf s.mem = true) :
    Memory.wf (writeOperand o v s).mem = true := by
  cases o with
  | reg r => simpa [writeOperand] using h
  | m => exact memWrite_wf _ _ _ h

end Sys2Proof.Machine
end

