-- ==== Sys2Proof/Tests/Slice0.lean ====
section
/-! SUPPORT. Tests. The words are written out field by field from the patterns of 30_encoding.md R82 to R89; the expected
results of the steps are the vectors of 95_test_vectors.md, by their names there; the witnesses meet the hypotheses of the
statements. -/

namespace Sys2Proof.Tests

open Sys2Proof Sys2Proof.Machine Sys2Proof.Claims

/-! WellFormed refuses each of the twelve undefined opcodes (R96). -/

theorem test_wellFormed_refuses_08 : Instr.wellFormed .undefined08 = false := by decide
theorem test_wellFormed_refuses_10 : Instr.wellFormed .undefined10 = false := by decide
theorem test_wellFormed_refuses_18 : Instr.wellFormed .undefined18 = false := by decide
theorem test_wellFormed_refuses_20 : Instr.wellFormed .undefined20 = false := by decide
theorem test_wellFormed_refuses_28 : Instr.wellFormed .undefined28 = false := by decide
theorem test_wellFormed_refuses_30 : Instr.wellFormed .undefined30 = false := by decide
theorem test_wellFormed_refuses_38 : Instr.wellFormed .undefined38 = false := by decide
theorem test_wellFormed_refuses_CB : Instr.wellFormed .undefinedCB = false := by decide
theorem test_wellFormed_refuses_D9 : Instr.wellFormed .undefinedD9 = false := by decide
theorem test_wellFormed_refuses_DD : Instr.wellFormed .undefinedDD = false := by decide
theorem test_wellFormed_refuses_ED : Instr.wellFormed .undefinedED = false := by decide
theorem test_wellFormed_refuses_FD : Instr.wellFormed .undefinedFD = false := by decide

theorem test_wellFormed_accepts_hlt : Instr.wellFormed .hlt = true := by decide

/-! Decoding: a word for every constructor. The operand bytes are 0x34 and 0x12. -/

/-- What the decoder reads from an opcode byte followed by 0x34, 0x12. -/
def decoded (op : Byte) : Option Instr :=
  match decode [op, 0x34#8, 0x12#8] with
  | .ok (i, _) => some i
  | .error _ => none

/-- Every word of a list decodes to the instruction beside it. -/
abbrev DecodesTo (words : List (Byte × Instr)) : Prop := ∀ w ∈ words, decoded w.1 = some w.2

/-- `01dddsss` with ddd = 000 (R87). -/
theorem test_decode_mov_to_B : DecodesTo [
  (0b01_000_000#8, .movBB), (0b01_000_001#8, .movBC), (0b01_000_010#8, .movBD), (0b01_000_011#8, .movBE),
  (0b01_000_100#8, .movBH), (0b01_000_101#8, .movBL), (0b01_000_110#8, .movBM),
  (0b01_000_111#8, .movBA)] := by decide

/-- `01dddsss` with ddd = 001 (R87). -/
theorem test_decode_mov_to_C : DecodesTo [
  (0b01_001_000#8, .movCB), (0b01_001_001#8, .movCC), (0b01_001_010#8, .movCD), (0b01_001_011#8, .movCE),
  (0b01_001_100#8, .movCH), (0b01_001_101#8, .movCL), (0b01_001_110#8, .movCM),
  (0b01_001_111#8, .movCA)] := by decide

/-- `01dddsss` with ddd = 010 (R87). -/
theorem test_decode_mov_to_D : DecodesTo [
  (0b01_010_000#8, .movDB), (0b01_010_001#8, .movDC), (0b01_010_010#8, .movDD), (0b01_010_011#8, .movDE),
  (0b01_010_100#8, .movDH), (0b01_010_101#8, .movDL), (0b01_010_110#8, .movDM),
  (0b01_010_111#8, .movDA)] := by decide

/-- `01dddsss` with ddd = 011 (R87). -/
theorem test_decode_mov_to_E : DecodesTo [
  (0b01_011_000#8, .movEB), (0b01_011_001#8, .movEC), (0b01_011_010#8, .movED), (0b01_011_011#8, .movEE),
  (0b01_011_100#8, .movEH), (0b01_011_101#8, .movEL), (0b01_011_110#8, .movEM),
  (0b01_011_111#8, .movEA)] := by decide

/-- `01dddsss` with ddd = 100 (R87). -/
theorem test_decode_mov_to_H : DecodesTo [
  (0b01_100_000#8, .movHB), (0b01_100_001#8, .movHC), (0b01_100_010#8, .movHD), (0b01_100_011#8, .movHE),
  (0b01_100_100#8, .movHH), (0b01_100_101#8, .movHL), (0b01_100_110#8, .movHM),
  (0b01_100_111#8, .movHA)] := by decide

/-- `01dddsss` with ddd = 101 (R87). -/
theorem test_decode_mov_to_L : DecodesTo [
  (0b01_101_000#8, .movLB), (0b01_101_001#8, .movLC), (0b01_101_010#8, .movLD), (0b01_101_011#8, .movLE),
  (0b01_101_100#8, .movLH), (0b01_101_101#8, .movLL), (0b01_101_110#8, .movLM),
  (0b01_101_111#8, .movLA)] := by decide

/-- `01dddsss` with ddd = 110 (R87). -/
theorem test_decode_mov_to_M : DecodesTo [
  (0b01_110_000#8, .movMB), (0b01_110_001#8, .movMC), (0b01_110_010#8, .movMD), (0b01_110_011#8, .movME),
  (0b01_110_100#8, .movMH), (0b01_110_101#8, .movML), (0b01_110_110#8, .hlt),
  (0b01_110_111#8, .movMA)] := by decide

/-- `01dddsss` with ddd = 111 (R87). -/
theorem test_decode_mov_to_A : DecodesTo [
  (0b01_111_000#8, .movAB), (0b01_111_001#8, .movAC), (0b01_111_010#8, .movAD), (0b01_111_011#8, .movAE),
  (0b01_111_100#8, .movAH), (0b01_111_101#8, .movAL), (0b01_111_110#8, .movAM),
  (0b01_111_111#8, .movAA)] := by decide

/-- `00ddd110` (R86). -/
theorem test_decode_mvi : DecodesTo [
  (0b00_000_110#8, .mviB 0x34#8), (0b00_001_110#8, .mviC 0x34#8), (0b00_010_110#8, .mviD 0x34#8),
  (0b00_011_110#8, .mviE 0x34#8), (0b00_100_110#8, .mviH 0x34#8), (0b00_101_110#8, .mviL 0x34#8),
  (0b00_110_110#8, .mviM 0x34#8), (0b00_111_110#8, .mviA 0x34#8)] := by decide

/-- `00ddd100` (R86). -/
theorem test_decode_inr : DecodesTo [
  (0b00_000_100#8, .inrB), (0b00_001_100#8, .inrC), (0b00_010_100#8, .inrD), (0b00_011_100#8, .inrE),
  (0b00_100_100#8, .inrH), (0b00_101_100#8, .inrL), (0b00_110_100#8, .inrM), (0b00_111_100#8, .inrA)] := by decide

/-- `00ddd101` (R86). -/
theorem test_decode_dcr : DecodesTo [
  (0b00_000_101#8, .dcrB), (0b00_001_101#8, .dcrC), (0b00_010_101#8, .dcrD), (0b00_011_101#8, .dcrE),
  (0b00_100_101#8, .dcrH), (0b00_101_101#8, .dcrL), (0b00_110_101#8, .dcrM), (0b00_111_101#8, .dcrA)] := by decide

/-- `10ooosss` with ooo = 000 (R88). -/
theorem test_decode_add : DecodesTo [
  (0b10_000_000#8, .addB), (0b10_000_001#8, .addC), (0b10_000_010#8, .addD), (0b10_000_011#8, .addE),
  (0b10_000_100#8, .addH), (0b10_000_101#8, .addL), (0b10_000_110#8, .addM), (0b10_000_111#8, .addA)] := by decide

/-- `10ooosss` with ooo = 001 (R88). -/
theorem test_decode_adc : DecodesTo [
  (0b10_001_000#8, .adcB), (0b10_001_001#8, .adcC), (0b10_001_010#8, .adcD), (0b10_001_011#8, .adcE),
  (0b10_001_100#8, .adcH), (0b10_001_101#8, .adcL), (0b10_001_110#8, .adcM), (0b10_001_111#8, .adcA)] := by decide

/-- `10ooosss` with ooo = 010 (R88). -/
theorem test_decode_sub : DecodesTo [
  (0b10_010_000#8, .subB), (0b10_010_001#8, .subC), (0b10_010_010#8, .subD), (0b10_010_011#8, .subE),
  (0b10_010_100#8, .subH), (0b10_010_101#8, .subL), (0b10_010_110#8, .subM), (0b10_010_111#8, .subA)] := by decide

/-- `10ooosss` with ooo = 011 (R88). -/
theorem test_decode_sbb : DecodesTo [
  (0b10_011_000#8, .sbbB), (0b10_011_001#8, .sbbC), (0b10_011_010#8, .sbbD), (0b10_011_011#8, .sbbE),
  (0b10_011_100#8, .sbbH), (0b10_011_101#8, .sbbL), (0b10_011_110#8, .sbbM), (0b10_011_111#8, .sbbA)] := by decide

/-- `10ooosss` with ooo = 100 (R88). -/
theorem test_decode_ana : DecodesTo [
  (0b10_100_000#8, .anaB), (0b10_100_001#8, .anaC), (0b10_100_010#8, .anaD), (0b10_100_011#8, .anaE),
  (0b10_100_100#8, .anaH), (0b10_100_101#8, .anaL), (0b10_100_110#8, .anaM), (0b10_100_111#8, .anaA)] := by decide

/-- `10ooosss` with ooo = 101 (R88). -/
theorem test_decode_xra : DecodesTo [
  (0b10_101_000#8, .xraB), (0b10_101_001#8, .xraC), (0b10_101_010#8, .xraD), (0b10_101_011#8, .xraE),
  (0b10_101_100#8, .xraH), (0b10_101_101#8, .xraL), (0b10_101_110#8, .xraM), (0b10_101_111#8, .xraA)] := by decide

/-- `10ooosss` with ooo = 110 (R88). -/
theorem test_decode_ora : DecodesTo [
  (0b10_110_000#8, .oraB), (0b10_110_001#8, .oraC), (0b10_110_010#8, .oraD), (0b10_110_011#8, .oraE),
  (0b10_110_100#8, .oraH), (0b10_110_101#8, .oraL), (0b10_110_110#8, .oraM), (0b10_110_111#8, .oraA)] := by decide

/-- `10ooosss` with ooo = 111 (R88). -/
theorem test_decode_cmp : DecodesTo [
  (0b10_111_000#8, .cmpB), (0b10_111_001#8, .cmpC), (0b10_111_010#8, .cmpD), (0b10_111_011#8, .cmpE),
  (0b10_111_100#8, .cmpH), (0b10_111_101#8, .cmpL), (0b10_111_110#8, .cmpM), (0b10_111_111#8, .cmpA)] := by decide

/-- `11ooo110` (R89). -/
theorem test_decode_aluImmediate : DecodesTo [
  (0b11_000_110#8, .adi 0x34#8), (0b11_001_110#8, .aci 0x34#8), (0b11_010_110#8, .sui 0x34#8),
  (0b11_011_110#8, .sbi 0x34#8), (0b11_100_110#8, .ani 0x34#8), (0b11_101_110#8, .xri 0x34#8),
  (0b11_110_110#8, .ori 0x34#8), (0b11_111_110#8, .cpi 0x34#8)] := by decide

/-- `00rp0001` (R86). -/
theorem test_decode_lxi : DecodesTo [
  (0b00_00_0001#8, .lxiB 0x1234#16), (0b00_01_0001#8, .lxiD 0x1234#16), (0b00_10_0001#8, .lxiH 0x1234#16),
  (0b00_11_0001#8, .lxiSp 0x1234#16)] := by decide

/-- `00rp0011`, `00rp1011`, `00rp1001` (R86). -/
theorem test_decode_inx_dcx_dad : DecodesTo [
  (0b00_00_0011#8, .inxB), (0b00_01_0011#8, .inxD), (0b00_10_0011#8, .inxH), (0b00_11_0011#8, .inxSp),
  (0b00_00_1011#8, .dcxB), (0b00_01_1011#8, .dcxD), (0b00_10_1011#8, .dcxH), (0b00_11_1011#8, .dcxSp),
  (0b00_00_1001#8, .dadB), (0b00_01_1001#8, .dadD), (0b00_10_1001#8, .dadH), (0b00_11_1001#8, .dadSp)] := by decide

/-- `xxx010` of quadrant 00 (R86). -/
theorem test_decode_loads_stores : DecodesTo [
  (0b00_00_0010#8, .staxB), (0b00_01_0010#8, .staxD), (0b00_00_1010#8, .ldaxB), (0b00_01_1010#8, .ldaxD),
  (0b00_100_010#8, .shld 0x1234#16), (0b00_101_010#8, .lhld 0x1234#16), (0b00_110_010#8, .sta 0x1234#16),
  (0b00_111_010#8, .lda 0x1234#16)] := by decide

/-- `xxx111` of quadrant 00 (R86). -/
theorem test_decode_rotates_and_accumulator : DecodesTo [
  (0b00_000_111#8, .rlc), (0b00_001_111#8, .rrc), (0b00_010_111#8, .ral), (0b00_011_111#8, .rar),
  (0b00_100_111#8, .daa), (0b00_101_111#8, .cma), (0b00_110_111#8, .stc), (0b00_111_111#8, .cmc)] := by decide

/-- `11rp0101`, `11rp0001` (R89). -/
theorem test_decode_push_pop : DecodesTo [
  (0b11_00_0101#8, .pushB), (0b11_01_0101#8, .pushD), (0b11_10_0101#8, .pushH), (0b11_11_0101#8, .pushPsw),
  (0b11_00_0001#8, .popB), (0b11_01_0001#8, .popD), (0b11_10_0001#8, .popH),
  (0b11_11_0001#8, .popPsw)] := by decide

/-- `11ccc010`, JMP 0xC3 and PCHL 0xE9 (R89). -/
theorem test_decode_jumps : DecodesTo [
  (0b11_000_010#8, .jnz 0x1234#16), (0b11_001_010#8, .jz 0x1234#16), (0b11_010_010#8, .jnc 0x1234#16),
  (0b11_011_010#8, .jc 0x1234#16), (0b11_100_010#8, .jpo 0x1234#16), (0b11_101_010#8, .jpe 0x1234#16),
  (0b11_110_010#8, .jp 0x1234#16), (0b11_111_010#8, .jm 0x1234#16), (0b11_000_011#8, .jmp 0x1234#16),
  (0b11_101_001#8, .pchl)] := by decide

/-- `11ccc100` and CALL 0xCD (R89). -/
theorem test_decode_calls : DecodesTo [
  (0b11_000_100#8, .cnz 0x1234#16), (0b11_001_100#8, .cz 0x1234#16), (0b11_010_100#8, .cnc 0x1234#16),
  (0b11_011_100#8, .cc 0x1234#16), (0b11_100_100#8, .cpo 0x1234#16), (0b11_101_100#8, .cpe 0x1234#16),
  (0b11_110_100#8, .cp 0x1234#16), (0b11_111_100#8, .cm 0x1234#16), (0b11_001_101#8, .call 0x1234#16)] := by decide

/-- `11ccc000` and RET 0xC9 (R89). -/
theorem test_decode_returns : DecodesTo [
  (0b11_000_000#8, .rnz), (0b11_001_000#8, .rz), (0b11_010_000#8, .rnc), (0b11_011_000#8, .rc),
  (0b11_100_000#8, .rpo), (0b11_101_000#8, .rpe), (0b11_110_000#8, .rp), (0b11_111_000#8, .rm),
  (0b11_001_001#8, .ret)] := by decide

/-- `11nnn111` (R89). -/
theorem test_decode_rst : DecodesTo [
  (0b11_000_111#8, .rst0), (0b11_001_111#8, .rst1), (0b11_010_111#8, .rst2), (0b11_011_111#8, .rst3),
  (0b11_100_111#8, .rst4), (0b11_101_111#8, .rst5), (0b11_110_111#8, .rst6), (0b11_111_111#8, .rst7)] := by decide

/-- NOP, OUT, IN, XTHL, XCHG, SPHL, DI, EI (R86, R89). -/
theorem test_decode_system : DecodesTo [
  (0b00_000_000#8, .nop), (0b11_010_011#8, .outPort 0x34#8), (0b11_011_011#8, .inPort 0x34#8),
  (0b11_100_011#8, .xthl), (0b11_101_011#8, .xchg), (0b11_111_001#8, .sphl), (0b11_110_011#8, .di),
  (0b11_111_011#8, .ei)] := by decide

/-- The twelve values of R96. -/
theorem test_decode_undefined : DecodesTo [
  (0b00_001_000#8, .undefined08), (0b00_010_000#8, .undefined10), (0b00_011_000#8, .undefined18),
  (0b00_100_000#8, .undefined20), (0b00_101_000#8, .undefined28), (0b00_110_000#8, .undefined30),
  (0b00_111_000#8, .undefined38), (0b11_001_011#8, .undefinedCB), (0b11_011_001#8, .undefinedD9),
  (0b11_011_101#8, .undefinedDD), (0b11_101_101#8, .undefinedED), (0b11_111_101#8, .undefinedFD)] := by decide

/-- A sequence that ends before the operand bytes, and an empty one, are refused by name. -/
theorem test_decode_refuses_short : decode [] = .error .noOpcode ∧ decode [0xC3#8, 0x34#8] = .error (.operandMissing 0xC3#8) ∧
    decode [0x3E#8] = .error (.operandMissing 0x3E#8) := ⟨rfl, rfl, rfl⟩

/-! One step on a small state. -/

/-- Bytes stored at PC in the state, PC as given. -/
def placed (pc : Word) (bytes : List Byte) (s : State) : State := storeBytes pc bytes { s with pc := pc }

/-- A byte stored at an address. -/
def cell (x : Word) (v : Byte) (s : State) : State := memWrite x v s

/-- The flags Z, S, P, CY, AC by 0 and 1, in the order of the vectors. -/
def fl (z s p cy ac : Nat) : Flags := { z := z == 1, s := s == 1, p := p == 1, cy := cy == 1, ac := ac == 1 }

/-- One look at the state after one step. -/
def look (s : State) (f : State → α) : Option α :=
  match step s with
  | .next t => some (f t)
  | _ => none

/-- T1: MOV B,C. -/
theorem test_T1_MOV_B_C : look (placed 0x0100#16 [0x41#8] { State.reset with b := 0x11#8, c := 0x22#8, flags := fl 1 0 0 1 0 })
    (fun t => (t.b, t.pc, t.flags)) = some (0x22#8, 0x0101#16, fl 1 0 0 1 0) := by decide

/-- T4: MOV M,H. -/
theorem test_T4_MOV_M_H : look (placed 0x0100#16 [0x74#8] { State.reset with h := 0x20#8, l := 0x10#8 })
    (fun t => (t.pc, memRead 0x2010#16 t, t.flags)) = some (0x0101#16, 0x20#8, fl 0 0 0 0 0) := by decide

/-- T5: MOV L,M. -/
theorem test_T5_MOV_L_M : look (placed 0x0100#16 [0x6E#8] (cell 0x2010#16 0x77#8 { State.reset with h := 0x20#8, l := 0x10#8 }))
    (fun t => (t.l, t.pc, t.flags)) = some (0x77#8, 0x0101#16, fl 0 0 0 0 0) := by decide

/-- T8: MVI M,FF. -/
theorem test_T8_MVI_M_FF : look (placed 0x0100#16 [0x36#8, 0xFF#8] { State.reset with h := 0x30#8, l := 0x00#8 })
    (fun t => (t.pc, memRead 0x3000#16 t, t.flags)) = some (0x0102#16, 0xFF#8, fl 0 0 0 0 0) := by decide

/-- T9: MVI A,42. -/
theorem test_T9_MVI_A_42 : look (placed 0xFFFF#16 [0x3E#8] (cell 0x0000#16 0x42#8 State.reset))
    (fun t => (t.a, t.pc, t.flags)) = some (0x42#8, 0x0001#16, fl 0 0 0 0 0) := by decide

/-- T10: LXI H,2050. -/
theorem test_T10_LXI_H_2050 : look (placed 0x0100#16 [0x21#8, 0x50#8, 0x20#8] State.reset)
    (fun t => (t.h, t.l, t.pc, t.flags)) = some (0x20#8, 0x50#8, 0x0103#16, fl 0 0 0 0 0) := by decide

/-- T11: LXI SP,2400. -/
theorem test_T11_LXI_SP_2400 : look (placed 0x0100#16 [0x31#8, 0x00#8, 0x24#8] State.reset)
    (fun t => (t.sp, t.pc, t.flags)) = some (0x2400#16, 0x0103#16, fl 0 0 0 0 0) := by decide

/-- T12: LDA 2001. -/
theorem test_T12_LDA_2001 : look (placed 0x0100#16 [0x3A#8, 0x01#8, 0x20#8] (cell 0x2001#16 0xAB#8 State.reset))
    (fun t => (t.a, t.pc, t.flags)) = some (0xAB#8, 0x0103#16, fl 0 0 0 0 0) := by decide

/-- T13: STA 2002. -/
theorem test_T13_STA_2002 : look (placed 0x0100#16 [0x32#8, 0x02#8, 0x20#8] { State.reset with a := 0xCD#8 })
    (fun t => (t.pc, memRead 0x2002#16 t, t.flags)) = some (0x0103#16, 0xCD#8, fl 0 0 0 0 0) := by decide

/-- T15: LHLD FFFF. -/
theorem test_T15_LHLD_FFFF : look (placed 0x0100#16 [0x2A#8, 0xFF#8, 0xFF#8] (cell 0x0000#16 0x12#8 (cell 0xFFFF#16 0x34#8 State.reset)))
    (fun t => (t.h, t.l, t.pc, t.flags)) = some (0x12#8, 0x34#8, 0x0103#16, fl 0 0 0 0 0) := by decide

/-- T17: SHLD FFFF. -/
theorem test_T17_SHLD_FFFF : look (placed 0x0100#16 [0x22#8, 0xFF#8, 0xFF#8] { State.reset with h := 0xAE#8, l := 0x29#8 })
    (fun t => (t.pc, memRead 0xFFFF#16 t, memRead 0x0000#16 t, t.flags)) = some (0x0103#16, 0x29#8, 0xAE#8, fl 0 0 0 0 0) := by decide

/-- T18: LDAX D. -/
theorem test_T18_LDAX_D : look (placed 0x0100#16 [0x1A#8] (cell 0x2030#16 0x5F#8 { State.reset with d := 0x20#8, e := 0x30#8 }))
    (fun t => (t.a, t.pc, t.flags)) = some (0x5F#8, 0x0101#16, fl 0 0 0 0 0) := by decide

/-- T19: STAX B. -/
theorem test_T19_STAX_B : look (placed 0x0100#16 [0x02#8] { State.reset with a := 0x77#8, b := 0x20#8, c := 0x40#8 })
    (fun t => (t.pc, memRead 0x2040#16 t, t.flags)) = some (0x0101#16, 0x77#8, fl 0 0 0 0 0) := by decide

/-- T20: XCHG. -/
theorem test_T20_XCHG : look (placed 0x0100#16 [0xEB#8] { State.reset with d := 0x33#8, e := 0x55#8, h := 0x00#8, l := 0xFF#8 })
    (fun t => (t.d, t.e, t.h, t.l, t.pc, t.flags)) = some (0x00#8, 0xFF#8, 0x33#8, 0x55#8, 0x0101#16, fl 0 0 0 0 0) := by decide

/-- A1: ADD B. -/
theorem test_A1_ADD_B : look (placed 0x0100#16 [0x80#8] { State.reset with a := 0xFF#8, b := 0x01#8 })
    (fun t => (t.a, t.pc, t.flags)) = some (0x00#8, 0x0101#16, fl 1 0 1 1 1) := by decide

/-- A4: ADD C. -/
theorem test_A4_ADD_C : look (placed 0x0100#16 [0x81#8] { State.reset with a := 0x7F#8, c := 0x01#8, flags := fl 0 0 0 1 0 })
    (fun t => (t.a, t.pc, t.flags)) = some (0x80#8, 0x0101#16, fl 0 1 0 0 1) := by decide

/-- A6: ADC C. -/
theorem test_A6_ADC_C : look (placed 0x0100#16 [0x89#8] { State.reset with a := 0x3D#8, c := 0x42#8, flags := fl 0 0 0 1 0 })
    (fun t => (t.a, t.pc, t.flags)) = some (0x80#8, 0x0101#16, fl 0 1 0 0 1) := by decide

/-- A8: ADC B. -/
theorem test_A8_ADC_B : look (placed 0x0100#16 [0x88#8] { State.reset with a := 0x0F#8, b := 0x00#8, flags := fl 0 0 0 1 0 })
    (fun t => (t.a, t.pc, t.flags)) = some (0x10#8, 0x0101#16, fl 0 0 0 0 1) := by decide

/-- A9: ACI FF. -/
theorem test_A9_ACI_FF : look (placed 0x0100#16 [0xCE#8, 0xFF#8] { State.reset with a := 0x00#8, flags := fl 0 0 0 1 0 })
    (fun t => (t.pc, t.flags)) = some (0x0102#16, fl 1 0 1 1 1) := by decide

/-- A10: SUB B. -/
theorem test_A10_SUB_B : look (placed 0x0100#16 [0x90#8] { State.reset with a := 0x00#8, b := 0x01#8 })
    (fun t => (t.a, t.pc, t.flags)) = some (0xFF#8, 0x0101#16, fl 0 1 1 1 0) := by decide

/-- A13: SUI 01. -/
theorem test_A13_SUI_01 : look (placed 0x0100#16 [0xD6#8, 0x01#8] { State.reset with a := 0x80#8 })
    (fun t => (t.a, t.pc, t.flags)) = some (0x7F#8, 0x0102#16, fl 0 0 0 0 0) := by decide

/-- A14: SBB L. -/
theorem test_A14_SBB_L : look (placed 0x0100#16 [0x9D#8] { State.reset with a := 0x04#8, l := 0x02#8, flags := fl 0 0 0 1 0 })
    (fun t => (t.a, t.pc, t.flags)) = some (0x01#8, 0x0101#16, fl 0 0 0 0 1) := by decide

/-- A15: SBB B. -/
theorem test_A15_SBB_B : look (placed 0x0100#16 [0x98#8] { State.reset with a := 0x00#8, b := 0xFF#8, flags := fl 0 0 0 1 0 })
    (fun t => (t.pc, t.flags)) = some (0x0101#16, fl 1 0 1 1 0) := by decide

/-- A17: SBI 00. -/
theorem test_A17_SBI_00 : look (placed 0x0100#16 [0xDE#8, 0x00#8] { State.reset with a := 0x10#8, flags := fl 0 0 0 1 0 })
    (fun t => (t.a, t.pc, t.flags)) = some (0x0F#8, 0x0102#16, fl 0 0 1 0 0) := by decide

/-- A18: CMP E. -/
theorem test_A18_CMP_E : look (placed 0x0100#16 [0xBB#8] { State.reset with a := 0x0A#8, e := 0x05#8 })
    (fun t => (t.pc, t.flags)) = some (0x0101#16, fl 0 0 1 0 1) := by decide

/-- A22: CPI 80. -/
theorem test_A22_CPI_80 : look (placed 0x0100#16 [0xFE#8, 0x80#8] { State.reset with a := 0x7F#8 })
    (fun t => (t.pc, t.flags)) = some (0x0102#16, fl 0 1 1 1 1) := by decide

/-- A23: INR C. -/
theorem test_A23_INR_C : look (placed 0x0100#16 [0x0C#8] { State.reset with c := 0xFF#8, flags := fl 0 0 0 1 0 })
    (fun t => (t.c, t.pc, t.flags)) = some (0x00#8, 0x0101#16, fl 1 0 1 1 0) := by decide

/-- A26: INR M. -/
theorem test_A26_INR_M : look (placed 0x0100#16 [0x34#8] (cell 0x2000#16 0x99#8 { State.reset with h := 0x20#8, l := 0x00#8 }))
    (fun t => (t.pc, memRead 0x2000#16 t, t.flags)) = some (0x0101#16, 0x9A#8, fl 0 1 1 0 0) := by decide

/-- A27: DCR B. -/
theorem test_A27_DCR_B : look (placed 0x0100#16 [0x05#8] { State.reset with b := 0x00#8 })
    (fun t => (t.b, t.pc, t.flags)) = some (0xFF#8, 0x0101#16, fl 0 1 1 0 0) := by decide

/-- A29: DCR M. -/
theorem test_A29_DCR_M : look (placed 0x0100#16 [0x35#8] (cell 0x2000#16 0x80#8 { State.reset with h := 0x20#8, l := 0x00#8 }))
    (fun t => (t.pc, memRead 0x2000#16 t, t.flags)) = some (0x0101#16, 0x7F#8, fl 0 0 0 0 0) := by decide

/-- A30: INX H. -/
theorem test_A30_INX_H : look (placed 0x0100#16 [0x23#8] { State.reset with h := 0xFF#8, l := 0xFF#8 })
    (fun t => (t.h, t.l, t.pc, t.flags)) = some (0x00#8, 0x00#8, 0x0101#16, fl 0 0 0 0 0) := by decide

/-- A31: INX SP. -/
theorem test_A31_INX_SP : look (placed 0x0100#16 [0x33#8] { State.reset with sp := 0xFFFF#16 })
    (fun t => (t.sp, t.pc, t.flags)) = some (0x0000#16, 0x0101#16, fl 0 0 0 0 0) := by decide

/-- A33: DCX B. -/
theorem test_A33_DCX_B : look (placed 0x0100#16 [0x0B#8] { State.reset with b := 0x00#8, c := 0x00#8 })
    (fun t => (t.b, t.c, t.pc, t.flags)) = some (0xFF#8, 0xFF#8, 0x0101#16, fl 0 0 0 0 0) := by decide

/-- A35: DAD B. -/
theorem test_A35_DAD_B : look (placed 0x0100#16 [0x09#8] { State.reset with b := 0x33#8, c := 0x9F#8, h := 0xA1#8, l := 0x7B#8, flags := fl 1 1 0 0 0 })
    (fun t => (t.h, t.l, t.pc, t.flags)) = some (0xD5#8, 0x1A#8, 0x0101#16, fl 1 1 0 0 0) := by decide

/-- A36: DAD H. -/
theorem test_A36_DAD_H : look (placed 0x0100#16 [0x29#8] { State.reset with h := 0x80#8, l := 0x00#8 })
    (fun t => (t.h, t.l, t.pc, t.flags)) = some (0x00#8, 0x00#8, 0x0101#16, fl 0 0 0 1 0) := by decide

/-- A38: DAD D. -/
theorem test_A38_DAD_D : look (placed 0x0100#16 [0x19#8] { State.reset with d := 0x00#8, e := 0x01#8, h := 0x12#8, l := 0x34#8, flags := fl 0 0 0 1 0 })
    (fun t => (t.l, t.pc, t.flags)) = some (0x35#8, 0x0101#16, fl 0 0 0 0 0) := by decide

/-- A39: DAA. -/
theorem test_A39_DAA : look (placed 0x0100#16 [0x27#8] { State.reset with a := 0x9B#8 })
    (fun t => (t.a, t.pc, t.flags)) = some (0x01#8, 0x0101#16, fl 0 0 0 1 1) := by decide

/-- A44: DAA. -/
theorem test_A44_DAA : look (placed 0x0100#16 [0x27#8] { State.reset with a := 0x12#8, flags := fl 0 0 0 0 1 })
    (fun t => (t.a, t.pc, t.flags)) = some (0x18#8, 0x0101#16, fl 0 0 1 0 0) := by decide

/-- G1: ANA B. -/
theorem test_G1_ANA_B : look (placed 0x0100#16 [0xA0#8] { State.reset with a := 0x0F#8, b := 0xFF#8, flags := fl 0 0 0 1 1 })
    (fun t => (t.pc, t.flags)) = some (0x0101#16, fl 0 0 1 0 0) := by decide

/-- G4: ANI 80. -/
theorem test_G4_ANI_80 : look (placed 0x0100#16 [0xE6#8, 0x80#8] { State.reset with a := 0xFF#8 })
    (fun t => (t.a, t.pc, t.flags)) = some (0x80#8, 0x0102#16, fl 0 1 0 0 0) := by decide

/-- G6: XRA B. -/
theorem test_G6_XRA_B : look (placed 0x0100#16 [0xA8#8] { State.reset with a := 0x5C#8, b := 0x78#8 })
    (fun t => (t.a, t.pc, t.flags)) = some (0x24#8, 0x0101#16, fl 0 0 1 0 0) := by decide

/-- G7: XRI 81. -/
theorem test_G7_XRI_81 : look (placed 0x0100#16 [0xEE#8, 0x81#8] { State.reset with a := 0x3B#8, flags := fl 0 0 0 1 0 })
    (fun t => (t.a, t.pc, t.flags)) = some (0xBA#8, 0x0102#16, fl 0 1 0 0 0) := by decide

/-- G8: ORA C. -/
theorem test_G8_ORA_C : look (placed 0x0100#16 [0xB1#8] { State.reset with a := 0x33#8, c := 0x0F#8, flags := fl 0 0 0 1 1 })
    (fun t => (t.a, t.pc, t.flags)) = some (0x3F#8, 0x0101#16, fl 0 0 1 0 0) := by decide

/-- G10: ORI 0F. -/
theorem test_G10_ORI_0F : look (placed 0x0100#16 [0xF6#8, 0x0F#8] { State.reset with a := 0xB5#8 })
    (fun t => (t.a, t.pc, t.flags)) = some (0xBF#8, 0x0102#16, fl 0 1 0 0 0) := by decide

/-- G11: RLC. -/
theorem test_G11_RLC : look (placed 0x0100#16 [0x07#8] { State.reset with a := 0xF2#8, flags := fl 1 0 0 0 1 })
    (fun t => (t.a, t.pc, t.flags)) = some (0xE5#8, 0x0101#16, fl 1 0 0 1 1) := by decide

/-- G13: RRC. -/
theorem test_G13_RRC : look (placed 0x0100#16 [0x0F#8] { State.reset with a := 0xF2#8, flags := fl 0 0 0 1 0 })
    (fun t => (t.a, t.pc, t.flags)) = some (0x79#8, 0x0101#16, fl 0 0 0 0 0) := by decide

/-- G16: RAL. -/
theorem test_G16_RAL : look (placed 0x0100#16 [0x17#8] { State.reset with a := 0x00#8, flags := fl 0 0 0 1 0 })
    (fun t => (t.a, t.pc, t.flags)) = some (0x01#8, 0x0101#16, fl 0 0 0 0 0) := by decide

/-- G17: RAR. -/
theorem test_G17_RAR : look (placed 0x0100#16 [0x1F#8] { State.reset with a := 0x6A#8, flags := fl 0 0 0 1 0 })
    (fun t => (t.a, t.pc, t.flags)) = some (0xB5#8, 0x0101#16, fl 0 0 0 0 0) := by decide

/-- G19: CMA. -/
theorem test_G19_CMA : look (placed 0x0100#16 [0x2F#8] { State.reset with a := 0x51#8, flags := fl 0 0 0 1 0 })
    (fun t => (t.a, t.pc, t.flags)) = some (0xAE#8, 0x0101#16, fl 0 0 0 1 0) := by decide

/-- G21: CMC. -/
theorem test_G21_CMC : look (placed 0x0100#16 [0x3F#8] { State.reset with flags := fl 1 0 0 1 0 })
    (fun t => (t.pc, t.flags)) = some (0x0101#16, fl 1 0 0 0 0) := by decide

/-- G23: STC. -/
theorem test_G23_STC : look (placed 0x0100#16 [0x37#8] State.reset)
    (fun t => (t.pc, t.flags)) = some (0x0101#16, fl 0 0 0 1 0) := by decide

/-- K1: PUSH B. -/
theorem test_K1_PUSH_B : look (placed 0x0100#16 [0xC5#8] { State.reset with b := 0xBE#8, c := 0xEF#8, sp := 0x2400#16 })
    (fun t => (t.sp, t.pc, memRead 0x23FF#16 t, memRead 0x23FE#16 t, t.flags)) = some (0x23FE#16, 0x0101#16, 0xBE#8, 0xEF#8, fl 0 0 0 0 0) := by decide

/-- K3: PUSH H. -/
theorem test_K3_PUSH_H : look (placed 0x0100#16 [0xE5#8] { State.reset with h := 0x12#8, l := 0x34#8, sp := 0x0001#16 })
    (fun t => (t.sp, t.pc, memRead 0x0000#16 t, memRead 0xFFFF#16 t, t.flags)) = some (0xFFFF#16, 0x0101#16, 0x12#8, 0x34#8, fl 0 0 0 0 0) := by decide

/-- K5: POP H. -/
theorem test_K5_POP_H : look (placed 0x0000#16 [0xE1#8] (cell 0xFFFF#16 0x34#8 { State.reset with sp := 0xFFFF#16 }))
    (fun t => (t.h, t.l, t.sp, t.pc, t.flags)) = some (0xE1#8, 0x34#8, 0x0001#16, 0x0001#16, fl 0 0 0 0 0) := by decide

/-- K6: PUSH PSW. -/
theorem test_K6_PUSH_PSW : look (placed 0x0100#16 [0xF5#8] { State.reset with a := 0x1F#8, sp := 0x502A#16, flags := fl 1 0 1 1 0 })
    (fun t => (t.sp, t.pc, memRead 0x5029#16 t, memRead 0x5028#16 t, t.flags)) = some (0x5028#16, 0x0101#16, 0x1F#8, 0x47#8, fl 1 0 1 1 0) := by decide

/-- K9: POP PSW. -/
theorem test_K9_POP_PSW : look (placed 0x0100#16 [0xF1#8] (cell 0x2C01#16 0xFF#8 (cell 0x2C00#16 0xC3#8 { State.reset with sp := 0x2C00#16 })))
    (fun t => (t.a, t.sp, t.pc, t.flags)) = some (0xFF#8, 0x2C02#16, 0x0101#16, fl 1 1 0 1 0) := by decide

/-- K10: POP PSW. -/
theorem test_K10_POP_PSW : look (placed 0x0100#16 [0xF1#8] (cell 0x2C01#16 0x12#8 (cell 0x2C00#16 0xFF#8 { State.reset with sp := 0x2C00#16 })))
    (fun t => (t.a, t.sp, t.pc, t.flags)) = some (0x12#8, 0x2C02#16, 0x0101#16, fl 1 1 1 1 1) := by decide

/-- K14: XTHL. -/
theorem test_K14_XTHL : look (placed 0x0100#16 [0xE3#8] (cell 0x0000#16 0x22#8 (cell 0xFFFF#16 0x11#8 { State.reset with h := 0xAA#8, l := 0xBB#8, sp := 0xFFFF#16 })))
    (fun t => (t.h, t.l, t.pc, memRead 0xFFFF#16 t, memRead 0x0000#16 t, t.flags)) = some (0x22#8, 0x11#8, 0x0101#16, 0xBB#8, 0xAA#8, fl 0 0 0 0 0) := by decide

/-- K15: SPHL. -/
theorem test_K15_SPHL : look (placed 0x0100#16 [0xF9#8] { State.reset with h := 0x50#8, l := 0x6C#8, sp := 0x1234#16 })
    (fun t => (t.sp, t.pc, t.flags)) = some (0x506C#16, 0x0101#16, fl 0 0 0 0 0) := by decide

/-- B1: JMP 3E00. -/
theorem test_B1_JMP_3E00 : look (placed 0x0100#16 [0xC3#8, 0x00#8, 0x3E#8] State.reset)
    (fun t => (t.pc, t.flags)) = some (0x3E00#16, fl 0 0 0 0 0) := by decide

/-- B3: JNZ 2000. -/
theorem test_B3_JNZ_2000 : look (placed 0x0100#16 [0xC2#8, 0x00#8, 0x20#8] State.reset)
    (fun t => (t.pc, t.flags)) = some (0x2000#16, fl 0 0 0 0 0) := by decide

/-- B5: JZ 2000. -/
theorem test_B5_JZ_2000 : look (placed 0x0100#16 [0xCA#8, 0x00#8, 0x20#8] { State.reset with flags := fl 1 0 0 0 0 })
    (fun t => (t.pc, t.flags)) = some (0x2000#16, fl 1 0 0 0 0) := by decide

/-- B6: JNC 2000. -/
theorem test_B6_JNC_2000 : look (placed 0x0100#16 [0xD2#8, 0x00#8, 0x20#8] { State.reset with flags := fl 0 0 0 1 0 })
    (fun t => (t.pc, t.flags)) = some (0x0103#16, fl 0 0 0 1 0) := by decide

/-- B7: JC 2000. -/
theorem test_B7_JC_2000 : look (placed 0x0100#16 [0xDA#8, 0x00#8, 0x20#8] { State.reset with flags := fl 0 0 0 1 0 })
    (fun t => (t.pc, t.flags)) = some (0x2000#16, fl 0 0 0 1 0) := by decide

/-- B8: JPO 2000. -/
theorem test_B8_JPO_2000 : look (placed 0x0100#16 [0xE2#8, 0x00#8, 0x20#8] State.reset)
    (fun t => (t.pc, t.flags)) = some (0x2000#16, fl 0 0 0 0 0) := by decide

/-- B9: JPE 2000. -/
theorem test_B9_JPE_2000 : look (placed 0x0100#16 [0xEA#8, 0x00#8, 0x20#8] State.reset)
    (fun t => (t.pc, t.flags)) = some (0x0103#16, fl 0 0 0 0 0) := by decide

/-- B10: JP 2000. -/
theorem test_B10_JP_2000 : look (placed 0x0100#16 [0xF2#8, 0x00#8, 0x20#8] { State.reset with flags := fl 0 1 0 0 0 })
    (fun t => (t.pc, t.flags)) = some (0x0103#16, fl 0 1 0 0 0) := by decide

/-- B11: JM 2000. -/
theorem test_B11_JM_2000 : look (placed 0x0100#16 [0xFA#8, 0x00#8, 0x20#8] { State.reset with flags := fl 0 1 0 0 0 })
    (fun t => (t.pc, t.flags)) = some (0x2000#16, fl 0 1 0 0 0) := by decide

/-- B12: CALL 1234. -/
theorem test_B12_CALL_1234 : look (placed 0x0100#16 [0xCD#8, 0x34#8, 0x12#8] { State.reset with sp := 0x2400#16 })
    (fun t => (t.sp, t.pc, memRead 0x23FF#16 t, memRead 0x23FE#16 t, t.flags)) = some (0x23FE#16, 0x1234#16, 0x01#8, 0x03#8, fl 0 0 0 0 0) := by decide

/-- B13: CALL 0010. -/
theorem test_B13_CALL_0010 : look (placed 0xFFFF#16 [0xCD#8] (cell 0x0001#16 0x00#8 (cell 0x0000#16 0x10#8 { State.reset with sp := 0x8000#16 })))
    (fun t => (t.sp, t.pc, memRead 0x7FFF#16 t, memRead 0x7FFE#16 t, t.flags)) = some (0x7FFE#16, 0x0010#16, 0x00#8, 0x02#8, fl 0 0 0 0 0) := by decide

/-- B14: CALL 4000. -/
theorem test_B14_CALL_4000 : look (placed 0x0100#16 [0xCD#8, 0x00#8, 0x40#8] { State.reset with sp := 0x0103#16 })
    (fun t => (t.sp, t.pc, memRead 0x0102#16 t, memRead 0x0101#16 t, t.flags)) = some (0x0101#16, 0x4000#16, 0x01#8, 0x03#8, fl 0 0 0 0 0) := by decide

/-- B15: CNZ 1234. -/
theorem test_B15_CNZ_1234 : look (placed 0x0100#16 [0xC4#8, 0x34#8, 0x12#8] { State.reset with sp := 0x2400#16, flags := fl 1 0 0 0 0 })
    (fun t => (t.pc, t.flags)) = some (0x0103#16, fl 1 0 0 0 0) := by decide

/-- B17: CC 1234. -/
theorem test_B17_CC_1234 : look (placed 0x0100#16 [0xDC#8, 0x34#8, 0x12#8] { State.reset with sp := 0x2400#16, flags := fl 0 0 0 1 0 })
    (fun t => (t.sp, t.pc, memRead 0x23FF#16 t, memRead 0x23FE#16 t, t.flags)) = some (0x23FE#16, 0x1234#16, 0x01#8, 0x03#8, fl 0 0 0 1 0) := by decide

/-- B18: CPE 1234. -/
theorem test_B18_CPE_1234 : look (placed 0x0100#16 [0xEC#8, 0x34#8, 0x12#8] { State.reset with sp := 0x2400#16 })
    (fun t => (t.pc, t.flags)) = some (0x0103#16, fl 0 0 0 0 0) := by decide

/-- B19: CM 1234. -/
theorem test_B19_CM_1234 : look (placed 0x0100#16 [0xFC#8, 0x34#8, 0x12#8] { State.reset with sp := 0x0000#16, flags := fl 0 1 0 0 0 })
    (fun t => (t.sp, t.pc, memRead 0xFFFF#16 t, memRead 0xFFFE#16 t, t.flags)) = some (0xFFFE#16, 0x1234#16, 0x01#8, 0x03#8, fl 0 1 0 0 0) := by decide

/-- B20: RET. -/
theorem test_B20_RET : look (placed 0x1234#16 [0xC9#8] (cell 0x23FF#16 0x01#8 (cell 0x23FE#16 0x03#8 { State.reset with sp := 0x23FE#16 })))
    (fun t => (t.sp, t.pc, t.flags)) = some (0x2400#16, 0x0103#16, fl 0 0 0 0 0) := by decide

/-- B22: RZ. -/
theorem test_B22_RZ : look (placed 0x1234#16 [0xC8#8] (cell 0x23FF#16 0x01#8 (cell 0x23FE#16 0x03#8 { State.reset with sp := 0x23FE#16 })))
    (fun t => (t.pc, t.flags)) = some (0x1235#16, fl 0 0 0 0 0) := by decide

/-- B23: RZ. -/
theorem test_B23_RZ : look (placed 0x1234#16 [0xC8#8] (cell 0x23FF#16 0x01#8 (cell 0x23FE#16 0x03#8 { State.reset with sp := 0x23FE#16, flags := fl 1 0 0 0 0 })))
    (fun t => (t.sp, t.pc, t.flags)) = some (0x2400#16, 0x0103#16, fl 1 0 0 0 0) := by decide

/-- B24: RNC. -/
theorem test_B24_RNC : look (placed 0x1234#16 [0xD0#8] (cell 0x23FF#16 0x01#8 (cell 0x23FE#16 0x03#8 { State.reset with sp := 0x23FE#16 })))
    (fun t => (t.sp, t.pc, t.flags)) = some (0x2400#16, 0x0103#16, fl 0 0 0 0 0) := by decide

/-- B25: RPO. -/
theorem test_B25_RPO : look (placed 0x1234#16 [0xE0#8] (cell 0x23FF#16 0x01#8 (cell 0x23FE#16 0x03#8 { State.reset with sp := 0x23FE#16, flags := fl 0 0 1 0 0 })))
    (fun t => (t.pc, t.flags)) = some (0x1235#16, fl 0 0 1 0 0) := by decide

/-- B26: RM. -/
theorem test_B26_RM : look (placed 0x1234#16 [0xF8#8] (cell 0x23FF#16 0x01#8 (cell 0x23FE#16 0x03#8 { State.reset with sp := 0x23FE#16, flags := fl 0 1 0 0 0 })))
    (fun t => (t.sp, t.pc, t.flags)) = some (0x2400#16, 0x0103#16, fl 0 1 0 0 0) := by decide

/-- B27: RST 3. -/
theorem test_B27_RST_3 : look (placed 0x0100#16 [0xDF#8] { State.reset with sp := 0x2400#16 })
    (fun t => (t.sp, t.pc, memRead 0x23FF#16 t, memRead 0x23FE#16 t, t.flags)) = some (0x23FE#16, 0x0018#16, 0x01#8, 0x01#8, fl 0 0 0 0 0) := by decide

/-- B29: RST 7. -/
theorem test_B29_RST_7 : look (placed 0xFFFF#16 [0xFF#8] { State.reset with sp := 0x2400#16 })
    (fun t => (t.sp, t.pc, memRead 0x23FF#16 t, memRead 0x23FE#16 t, t.flags)) = some (0x23FE#16, 0x0038#16, 0x00#8, 0x00#8, fl 0 0 0 0 0) := by decide

/-- B30: PCHL. -/
theorem test_B30_PCHL : look (placed 0x0100#16 [0xE9#8] { State.reset with h := 0x41#8, l := 0x3E#8 })
    (fun t => (t.pc, t.flags)) = some (0x413E#16, fl 0 0 0 0 0) := by decide

/-- Y4: EI. -/
theorem test_Y4_EI : look (placed 0x0100#16 [0xFB#8] { State.reset with inte := false })
    (fun t => (t.inte, t.pc, t.flags)) = some (true, 0x0101#16, fl 0 0 0 0 0) := by decide

/-- Y5: DI. -/
theorem test_Y5_DI : look (placed 0x0100#16 [0xF3#8] { State.reset with inte := true })
    (fun t => (t.inte, t.pc, t.flags)) = some (false, 0x0101#16, fl 0 0 0 0 0) := by decide

/-- Y9: NOP. -/
theorem test_Y9_NOP : look (placed 0x0006#16 [0x00#8] State.reset)
    (fun t => (t.pc, t.flags)) = some (0x0007#16, fl 0 0 0 0 0) := by decide

/-- Y10: NOP. -/
theorem test_Y10_NOP : look (placed 0xFFFF#16 [0x00#8] State.reset)
    (fun t => (t.pc, t.flags)) = some (0x0000#16, fl 0 0 0 0 0) := by decide

/-- A handler's function that answers 0x41 at port 0x01, 0x9C at port 0xFF and 0x00 at every other port. -/
def twoPorts : PortAnswers := ((Vector.replicate 256 0x00#8).set 0x01 0x41#8).set 0xFF 0x9C#8

/-- Y1: IN 01 with a handler that answers 0x41 at that port. -/
theorem test_Y1_IN : look (placed 0x0100#16 [0xDB#8, 0x01#8] { State.reset with inHandler := .fixed twoPorts, flags := fl 1 0 0 0 0 })
    (fun t => (t.a, t.pc, t.flags)) = some (0x41#8, 0x0102#16, fl 1 0 0 0 0) := by decide

/-- R43: the same handler answers another port with that port's byte, and the port is presented. -/
theorem test_IN_answers_by_port : look (placed 0x0100#16 [0xDB#8, 0xFF#8] { State.reset with inHandler := .fixed twoPorts })
    (fun t => (t.a, t.inPorts)) = some (0x9C#8, [0xFF#8]) := by decide

/-- Y2: IN 07 in the default environment. -/
theorem test_Y2_IN : look (placed 0x0100#16 [0xDB#8, 0x07#8] { State.reset with a := 0x55#8 })
    (fun t => (t.a, t.pc, t.flags)) = some (0x00#8, 0x0102#16, fl 0 0 0 0 0) := by decide

/-- Y3: OUT 02. -/
theorem test_Y3_OUT : look (placed 0x0100#16 [0xD3#8, 0x02#8] { State.reset with a := 0x41#8 })
    (fun t => (t.pc, t.outputs, t.flags)) = some (0x0102#16, [(0x02#8, 0x41#8)], fl 0 0 0 0 0) := by decide

/-- Y7: HLT. -/
theorem test_Y7_HLT : look (placed 0x0100#16 [0x76#8] State.reset)
    (fun t => (t.halted, t.pc, stepResult t)) = some (true, 0x0101#16, StepResult.halted) := by decide

/-- Y8, second step: a halted core stays where it is. -/
theorem test_Y8_halted : look (placed 0x0101#16 [0x3C#8] { State.reset with halted := true })
    (fun t => (t.a, t.pc, stepResult t)) = some (0x00#8, 0x0101#16, StepResult.halted) := by decide

/-- X08 to XFD: the twelve undefined opcodes. -/
theorem test_X_undefined : ∀ u ∈ undefinedOpcodes,
    look (placed 0x0100#16 [u, 0x34#8, 0x12#8] { State.reset with a := 0x5A#8, flags := fl 0 0 0 1 0, sp := 0x2400#16 })
      (fun t => (stepResult t, t.pc, t.a, t.sp, t.flags)) =
    some (.failed (.unimplementedOpcode u 0x0100#16), 0x0100#16, 0x5A#8, 0x2400#16, fl 0 0 0 1 0) := by decide

/-- X2, second step: a faulted core stays where it is. -/
theorem test_X2_faulted : look (placed 0x0100#16 [0x08#8, 0x3C#8]
      { State.reset with a := 0x01#8, fault := some (.unimplementedOpcode 0x08#8 0x0100#16) })
    (fun t => (t.a, t.pc, stepResult t)) =
    some (0x01#8, 0x0100#16, .failed (.unimplementedOpcode 0x08#8 0x0100#16)) := by decide

/-- Z2: an image that ends at the last byte is accepted. -/
theorem test_Z2_load : loadProgram [0x3E#8, 0x2A#8] 0xFFFE#16 State.reset =
    .next { State.reset with mem := [(0xFFFE, 0x3E#8), (0xFFFF, 0x2A#8)] } := by rfl

/-- Z3: an image one byte longer is refused. -/
theorem test_Z3_load : loadProgram [0x3E#8, 0x2A#8, 0x76#8] 0xFFFE#16 State.reset = .refused .imageDoesNotFit := by rfl

/-- Z4, first step: reset memory is NOPs. -/
theorem test_Z4_reset : look State.reset (fun t => (t.pc, t.sp, t.a)) = some (0x0001#16, 0x0000#16, 0x00#8) := by decide

/-- Z5: seeded PC and SP, then RET. -/
theorem test_Z5_launch : (match launch [0xC9#8] 0x0100#16 0x0100#16 0x2400#16 .unset with
    | .next s => look s (fun t => (t.pc, t.sp))
    | _ => none) = some (0x0000#16, 0x2402#16) := by decide

/-- S3: the source's parity values. -/
theorem test_S3_parity : parityFlag 0x00#8 = true ∧ parityFlag 0x01#8 = false ∧ parityFlag 0xFF#8 = true := by decide

/-- R39: the reset state's latches and registers. -/
theorem test_reset_pc_and_latches : (State.reset.pc, State.reset.halted, State.reset.fault, State.reset.mem) =
    (0x0000#16, false, none, []) := by decide

/-- Storing the reset value removes the entry, so equal memories are equal lists (log entry 5). -/
theorem test_memory_canonical : memWrite 0x2000#16 0x00#8 (memWrite 0x2000#16 0x05#8 State.reset) = State.reset := by decide

/-! Witnesses: for every statement with hypotheses, states and operands that meet them together. -/

/-- A state of a running core, just after an EI. -/
def running : State := { State.reset with pc := 0x0100#16, inte := true }

/-- A core halted by the HLT at 0x00FF. -/
def haltedCore : State := { State.reset with pc := 0x0100#16, halted := true, mem := [(0x00FF, 0x76#8)] }

/-- A core that has fetched 0x08 at 0x0100. -/
def faultedCore : State :=
  { State.reset with pc := 0x0100#16, mem := [(0x0100, 0x08#8)], fault := some (.unimplementedOpcode 0x08#8 0x0100#16) }

/-- The host's session after one step. -/
def startedSession : Session := { state := running, started := true }

theorem witness_EncodeOfDecodeGivesBytes : decode [0x3E#8, 0x2A#8, 0x76#8] = .ok (.mviA 0x2A#8, [0x76#8]) := rfl

theorem witness_UndefinedOpcodesAreTheTwelve :
    decode [0xCB#8, 0x34#8] = .ok (.undefinedCB, [0x34#8]) ∧ decode [0xFE#8, 0x34#8] = .ok (.cpi 0x34#8, []) := ⟨rfl, rfl⟩

theorem witness_CanonicalMemoryIsUnique :
    Memory.wf [(0, 0x05#8), (0xFFFF, 0x06#8)] = true ∧
    Memory.wf (Memory.write (Memory.write [] 0xFFFF 0x06#8) 0 0x05#8) = true ∧
    ∀ n, Memory.read [(0, 0x05#8), (0xFFFF, 0x06#8)] n =
      Memory.read (Memory.write (Memory.write [] 0xFFFF 0x06#8) 0 0x05#8) n :=
  ⟨by decide, by decide, fun _ => rfl⟩

theorem witness_CallsPushReturnAddress_taken : ∀ cond, ∃ f : Flags, condTrue cond f = true := by
  intro cond
  cases cond
  · exact ⟨fl 0 0 0 0 0, rfl⟩
  · exact ⟨fl 1 0 0 0 0, rfl⟩
  · exact ⟨fl 0 0 0 0 0, rfl⟩
  · exact ⟨fl 0 0 0 1 0, rfl⟩
  · exact ⟨fl 0 0 0 0 0, rfl⟩
  · exact ⟨fl 0 0 1 0 0, rfl⟩
  · exact ⟨fl 0 0 0 0 0, rfl⟩
  · exact ⟨fl 0 1 0 0 0, rfl⟩

theorem witness_CallsPushReturnAddress_not_taken : ∀ cond, ∃ f : Flags, condTrue cond f = false := by
  intro cond
  cases cond
  · exact ⟨fl 1 0 0 0 0, rfl⟩
  · exact ⟨fl 0 0 0 0 0, rfl⟩
  · exact ⟨fl 0 0 0 1 0, rfl⟩
  · exact ⟨fl 0 0 0 0 0, rfl⟩
  · exact ⟨fl 0 0 1 0 0, rfl⟩
  · exact ⟨fl 0 0 0 0 0, rfl⟩
  · exact ⟨fl 0 1 0 0 0, rfl⟩
  · exact ⟨fl 0 0 0 0 0, rfl⟩

theorem witness_InStoresEnvironmentAnswer : State.reset.inHandler = .unset ∧
    { running with inHandler := .fixed twoPorts }.inHandler = .fixed twoPorts ∧
    { running with inHandler := .varying [twoPorts] }.inHandler = .varying [twoPorts] ∧
    { running with inHandler := .varying [] }.inHandler = .varying [] ∧
    twoPorts[(0x00#8 : Byte).toNat] = 0x00#8 ∧ twoPorts[(0xFF#8 : Byte).toNat] = 0x9C#8 :=
  ⟨rfl, rfl, rfl, rfl, by decide, by decide⟩

theorem witness_HltSetsHalted : running.fault = none := rfl

theorem witness_UndefinedOpcodeRaises : Instr.wellFormed .undefinedFD = false := rfl

theorem witness_UndefinedOpcodeStepIsPrecise :
    Running (placed 0xFFFF#16 [0xFD#8] State.reset) ∧
    memRead 0xFFFF#16 (placed 0xFFFF#16 [0xFD#8] State.reset) ∈ undefinedOpcodes ∧
    Running (placed 0xFFFF#16 [0xFE#8] State.reset) ∧
    memRead 0xFFFF#16 (placed 0xFFFF#16 [0xFE#8] State.reset) ∉ undefinedOpcodes :=
  ⟨⟨rfl, rfl⟩, by decide, ⟨rfl, rfl⟩, by decide⟩

theorem witness_StepRunsDecodedInstruction : Running (placed 0xFFFF#16 [0x3E#8, 0x42#8] State.reset) ∧
    decode (bytesAtPc (placed 0xFFFF#16 [0x3E#8, 0x42#8] State.reset)) = .ok (.mviA 0x42#8, [0x00#8]) :=
  ⟨⟨rfl, rfl⟩, by rfl⟩

theorem witness_StepFollowsItsProcedure_fault :
    faultedCore.fault = some (.unimplementedOpcode 0x08#8 0x0100#16) := rfl

theorem witness_StepFollowsItsProcedure_halted : haltedCore.fault = none ∧ haltedCore.halted = true := ⟨rfl, rfl⟩

theorem witness_StepFollowsItsProcedure_running : Running running ∧ memRead running.pc running ∉ undefinedOpcodes ∧
    Running { running with mem := [(0x0100, 0xFD#8)] } ∧
    memRead 0x0100#16 { running with mem := [(0x0100, 0xFD#8)] } ∈ undefinedOpcodes :=
  ⟨⟨rfl, rfl⟩, by decide, ⟨rfl, rfl⟩, by decide⟩

/-- The invariant's premise in a running state, whose step sets HALTED. -/
theorem witness_EveryStepKeepsInvariant_running :
    Inv { running with mem := [(0x0100, 0x76#8)] } ∧ step { running with mem := [(0x0100, 0x76#8)] } =
      .next { running with mem := [(0x0100, 0x76#8)], pc := 0x0101#16, halted := true } :=
  ⟨⟨rfl, nofun, nofun, nofun⟩, rfl⟩

theorem witness_EveryStepKeepsInvariant_halted : Inv haltedCore ∧ step haltedCore = .next haltedCore :=
  ⟨⟨rfl, fun _ => rfl, nofun, nofun⟩, rfl⟩

theorem witness_EveryStepKeepsInvariant_faulted : Inv faultedCore ∧ step faultedCore = .next faultedCore :=
  ⟨⟨rfl, nofun, fun _ h => ⟨by decide, (Option.some.inj h).symm⟩, nofun⟩, rfl⟩

theorem witness_UnwrittenRegistersUnchanged :
    exec .addB running = .next (aluAdd running.b false running) ∧ Reg.b ∉ writtenRegs .addB := ⟨rfl, by decide⟩

theorem witness_UnwrittenFlagsUnchanged :
    exec .stc running = .next { running with flags := { running.flags with cy := true } } ∧
      FlagName.z ∉ writtenFlags .stc := ⟨rfl, by decide⟩

theorem witness_SpecialStateWrittenOnlyByItsInstructions : exec .nop running = .next running ∧
    writesSp .nop = false ∧ Instr.nop ≠ .ei ∧ Instr.nop ≠ .di ∧ Instr.nop ≠ .hlt ∧ Instr.wellFormed .nop = true ∧
    (∀ port, Instr.nop ≠ .inPort port) ∧ (∀ port, Instr.nop ≠ .outPort port) :=
  ⟨rfl, rfl, by decide, by decide, by decide, rfl, nofun, nofun⟩

theorem witness_PcAdvancesByLength : Running (placed 0xFFFE#16 [0x3A#8, 0x01#8, 0x20#8] State.reset) ∧
    decode (bytesAtPc (placed 0xFFFE#16 [0x3A#8, 0x01#8, 0x20#8] State.reset)) = .ok (.lda 0x2001#16, []) ∧
    writesPc (.lda 0x2001#16) = false ∧
    ∃ t, step (placed 0xFFFE#16 [0x3A#8, 0x01#8, 0x20#8] State.reset) = .next t := ⟨⟨rfl, rfl⟩, rfl, rfl, _, rfl⟩

theorem witness_MemoryUnchangedOutsideStores :
    exec (.shld 0xFFFF#16) running = .next (memWrite 0x0000#16 0x00#8 (memWrite 0xFFFF#16 0x00#8 running)) ∧
      (0x0001#16 : Word) ∉ storedAddrs (.shld 0xFFFF#16) running ∧ (0x0000#16 : Word) ∉ storedAddrs (.cc 0x1234#16) running :=
  ⟨rfl, by decide, by decide⟩

theorem witness_InterruptEnableInfluencesNothing : step running = .next { running with pc := 0x0101#16 } := rfl

theorem witness_AuxCarryReadOnlyByDaaAndPushPsw :
    Instr.addB ≠ .daa ∧ Instr.addB ≠ .pushPsw ∧ exec .addB running = .next (aluAdd running.b false running) :=
  ⟨by decide, by decide, rfl⟩

theorem witness_EnvironmentInfluencesOnlyIn :
    step running = .next { running with pc := 0x0101#16 } ∧ memRead running.pc running ≠ 0xDB#8 := ⟨rfl, by decide⟩

theorem witness_LoadProgramCopiesImage_fits : (0xFFFE#16 : Word).toNat + [0x3E#8, 0x2A#8].length ≤ 65536 ∧
    [0x3E#8, 0x2A#8][1]? = some 0x2A#8 ∧ (0xFFFD#16 : Word).toNat < (0xFFFE#16 : Word).toNat := by decide

theorem witness_LoadProgramCopiesImage_above : (0x0000#16 : Word).toNat + [0x3E#8, 0x2A#8].length ≤ (0x0002#16 : Word).toNat := by
  decide

theorem witness_LoadProgramCopiesImage_refused : 65536 < (0xFFFE#16 : Word).toNat + [0x3E#8, 0x2A#8, 0x76#8].length := by
  decide

theorem witness_LaunchStateFromParameters : loadProgram [0x76#8] 0xFFFF#16 State.reset =
    .next { State.reset with mem := [(0xFFFF, 0x76#8)] } := by rfl

theorem witness_HostWritesRefusedAfterStart :
    startedSession.started = true ∧ step startedSession.state = .next { running with pc := 0x0101#16 } := ⟨rfl, rfl⟩

theorem witness_PlacedInstructionIsFetched : decodeTableWord 24 0x1234C3 = some (.jmp 0x1234#16) ∧
    decodeTableWord 8 0xC3 = some (.jmp 0x0000#16) := by decide

end Sys2Proof.Tests
end

/-! The families of the instruction set, and the state each family's meaning answers. -/

namespace Sys2Proof.Machine

open Sys2Proof.Claims

/-! A statement about every operand name is its finitely many cases. -/

theorem Reg.forall_iff {P : Reg → Prop} :
    (∀ r, P r) ↔ P .b ∧ P .c ∧ P .d ∧ P .e ∧ P .h ∧ P .l ∧ P .a :=
  ⟨fun h => ⟨h _, h _, h _, h _, h _, h _, h _⟩, fun h r => by cases r <;> simp only [h]⟩

theorem Operand.forall_iff {P : Operand → Prop} : (∀ o, P o) ↔ (∀ r, P (.reg r)) ∧ P .m :=
  ⟨fun h => ⟨fun _ => h _, h _⟩, fun h o => by cases o <;> simp only [h]⟩

theorem Pair.forall_iff {P : Pair → Prop} :
    (∀ p, P p) ↔ P .bc ∧ P .de ∧ P .hl ∧ P .sp :=
  ⟨fun h => ⟨h _, h _, h _, h _⟩, fun h p => by cases p <;> simp only [h]⟩

theorem StackPair.forall_iff {P : StackPair → Prop} :
    (∀ p, P p) ↔ P .bc ∧ P .de ∧ P .hl ∧ P .psw :=
  ⟨fun h => ⟨h _, h _, h _, h _⟩, fun h p => by cases p <;> simp only [h]⟩

theorem PointerPair.forall_iff {P : PointerPair → Prop} :
    (∀ p, P p) ↔ P .bc ∧ P .de :=
  ⟨fun h => ⟨h _, h _⟩, fun h p => by cases p <;> simp only [h]⟩

theorem Cond.forall_iff {P : Cond → Prop} :
    (∀ cond, P cond) ↔ P .nz ∧ P .z ∧ P .nc ∧ P .c ∧ P .po ∧ P .pe ∧ P .p ∧ P .m :=
  ⟨fun h => ⟨h _, h _, h _, h _, h _, h _, h _, h _⟩, fun h cond => by cases cond <;> simp only [h]⟩

theorem AluOp.forall_iff {P : AluOp → Prop} :
    (∀ op, P op) ↔ P .add ∧ P .adc ∧ P .sub ∧ P .sbb ∧ P .ana ∧ P .xra ∧ P .ora ∧ P .cmp :=
  ⟨fun h => ⟨h _, h _, h _, h _, h _, h _, h _, h _⟩, fun h op => by cases op <;> simp only [h]⟩

theorem FlagName.forall_iff {P : FlagName → Prop} : (∀ f, P f) ↔ P .z ∧ P .s ∧ P .p ∧ P .cy ∧ P .ac :=
  ⟨fun h => ⟨h _, h _, h _, h _, h _⟩, fun h f => by cases f <;> simp only [h]⟩

/-- Case analysis on an instruction by the families of 30_encoding.md R82 to R89 (the tables of Machine/Forms.lean) and
the rows that stand alone: written out over their operand names, the families are the 256 constructors. -/
theorem instr_families {P : Instr → Prop}
    (movReg : ∀ r o, P (movInstr (.reg r) o)) (movMem : ∀ r, P (movInstr .m (.reg r)))
    (mvi : ∀ v o, P (mviInstr o v)) (lxi : ∀ w p, P (lxiInstr p w))
    (lda : ∀ a16, P (.lda a16)) (lhld : ∀ a16, P (.lhld a16)) (sta : ∀ a16, P (.sta a16)) (shld : ∀ a16, P (.shld a16))
    (ldax : ∀ p, P (ldaxInstr p)) (stax : ∀ p, P (staxInstr p)) (xchg : P .xchg)
    (alu : ∀ op o, P (aluInstr op o)) (aluImm : ∀ v op, P (aluImmInstr op v))
    (inr : ∀ o, P (inrInstr o)) (dcr : ∀ o, P (dcrInstr o))
    (inx : ∀ p, P (inxInstr p)) (dcx : ∀ p, P (dcxInstr p)) (dad : ∀ p, P (dadInstr p)) (daa : P .daa)
    (rlc : P .rlc) (rrc : P .rrc) (ral : P .ral) (rar : P .rar) (cma : P .cma) (cmc : P .cmc) (stc : P .stc)
    (push : ∀ p, P (pushInstr p)) (pop : ∀ p, P (popInstr p)) (xthl : P .xthl) (sphl : P .sphl)
    (jmp : ∀ a16, P (.jmp a16)) (jumpCond : ∀ a16 cond, P (jumpCondInstr cond a16))
    (call : ∀ a16, P (.call a16)) (callCond : ∀ a16 cond, P (callCondInstr cond a16))
    (ret : P .ret) (returnCond : ∀ cond, P (returnCondInstr cond)) (rst : ∀ n, P (rstInstr n)) (pchl : P .pchl)
    (inPort : ∀ port, P (.inPort port)) (outPort : ∀ port, P (.outPort port))
    (ei : P .ei) (di : P .di) (nop : P .nop) (hlt : P .hlt)
    (undefined : ∀ i, i.wellFormed = false → P i) (i : Instr) : P i := by
  simp only [Reg.forall_iff, Operand.forall_iff, Pair.forall_iff, StackPair.forall_iff, PointerPair.forall_iff,
    Cond.forall_iff, AluOp.forall_iff, movInstr, mviInstr, lxiInstr, ldaxInstr, staxInstr, aluInstr, aluImmInstr,
    inrInstr, dcrInstr, inxInstr, dcxInstr, dadInstr, pushInstr, popInstr, jumpCondInstr, callCondInstr,
    returnCondInstr] at *
  have rst : P .rst0 ∧ P .rst1 ∧ P .rst2 ∧ P .rst3 ∧ P .rst4 ∧ P .rst5 ∧ P .rst6 ∧ P .rst7 :=
    ⟨rst 0, rst 1, rst 2, rst 3, rst 4, rst 5, rst 6, rst 7⟩
  have undefined : P .undefined08 ∧ P .undefined10 ∧ P .undefined18 ∧ P .undefined20 ∧ P .undefined28 ∧
      P .undefined30 ∧ P .undefined38 ∧ P .undefinedCB ∧ P .undefinedD9 ∧ P .undefinedDD ∧ P .undefinedED ∧
      P .undefinedFD := by
    refine ⟨?_, ?_, ?_, ?_, ?_, ?_, ?_, ?_, ?_, ?_, ?_, ?_⟩ <;> exact undefined _ rfl
  cases i <;> simp only [*]

/-- The state the meaning of an instruction answers. -/
def nextState (i : Instr) (s : State) : State :=
  match exec i s with
  | .next t => t
  | .fault _ | .refused _ => s

/-- Every meaning answers a next state (log entry 1). -/
theorem exec_eq_next (i : Instr) (s : State) : exec i s = .next (nextState i s) := by
  cases i <;> rfl

theorem exec_eq_next_iff {i : Instr} {s t : State} : exec i s = .next t ↔ nextState i s = t := by
  simp [exec_eq_next]

/-- An ALU operation on A and a byte (R151 to R160, R181 to R186). -/
def aluApply : AluOp → Byte → State → State
  | .add, v, s => aluAdd v false s
  | .adc, v, s => aluAdd v s.flags.cy s
  | .sub, v, s => aluSub v false s
  | .sbb, v, s => aluSub v s.flags.cy s
  | .ana, v, s => aluLogic (s.a &&& v) s
  | .xra, v, s => aluLogic (s.a ^^^ v) s
  | .ora, v, s => aluLogic (s.a ||| v) s
  | .cmp, v, s => aluCmp v s

/-- The word PUSH stores (R201, R202). -/
def readStackPair : StackPair → State → Word
  | .bc, s => readPair .bc s
  | .de, s => readPair .de s
  | .hl, s => readPair .hl s
  | .psw, s => readPsw s

/-- Where POP puts the word (R203, R204). -/
def writeStackPair : StackPair → Word → State → State
  | .bc, v, s => writePair .bc v s
  | .de, v, s => writePair .de v s
  | .hl, v, s => writePair .hl v s
  | .psw, v, s => writePsw v s

section
variable (s : State)

@[simp] theorem nextState_movReg (r : Reg) (o : Operand) :
    nextState (movInstr (.reg r) o) s = writeReg r (readOperand o s) s := by
  cases o with
  | reg q => cases r <;> cases q <;> rfl
  | m => cases r <;> rfl

@[simp] theorem nextState_movMem (r : Reg) :
    nextState (movInstr .m (.reg r)) s = memWrite (readPair .hl s) (readReg r s) s := by
  cases r <;> rfl

@[simp] theorem nextState_mvi (v : Byte) (o : Operand) : nextState (mviInstr o v) s = writeOperand o v s := by
  cases o with
  | reg r => cases r <;> rfl
  | m => rfl

@[simp] theorem nextState_lxi (w : Word) (p : Pair) : nextState (lxiInstr p w) s = writePair p w s := by
  cases p <;> rfl

@[simp] theorem nextState_lda (a16 : Word) : nextState (.lda a16) s = { s with a := memRead a16 s } := rfl

@[simp] theorem nextState_lhld (a16 : Word) :
    nextState (.lhld a16) s = { s with l := memRead a16 s, h := memRead (a16 + 1) s } := rfl

@[simp] theorem nextState_sta (a16 : Word) : nextState (.sta a16) s = memWrite a16 s.a s := rfl

@[simp] theorem nextState_shld (a16 : Word) :
    nextState (.shld a16) s = memWrite (a16 + 1) s.h (memWrite a16 s.l s) := rfl

@[simp] theorem nextState_ldax (p : PointerPair) :
    nextState (ldaxInstr p) s = { s with a := memRead (pointerAddr p s) s } := by
  cases p <;> rfl

@[simp] theorem nextState_stax (p : PointerPair) : nextState (staxInstr p) s = memWrite (pointerAddr p s) s.a s := by
  cases p <;> rfl

@[simp] theorem nextState_xchg : nextState .xchg s = { s with d := s.h, e := s.l, h := s.d, l := s.e } := rfl

@[simp] theorem nextState_alu (op : AluOp) (o : Operand) :
    nextState (aluInstr op o) s = aluApply op (readOperand o s) s := by
  cases o with
  | reg r => cases op <;> cases r <;> rfl
  | m => cases op <;> rfl

@[simp] theorem nextState_aluImm (v : Byte) (op : AluOp) : nextState (aluImmInstr op v) s = aluApply op v s := by
  cases op <;> rfl

@[simp] theorem nextState_inr (o : Operand) : nextState (inrInstr o) s = storeZSP o (readOperand o s + 1) s := by
  cases o with
  | reg r => cases r <;> rfl
  | m => rfl

@[simp] theorem nextState_dcr (o : Operand) : nextState (dcrInstr o) s = storeZSP o (readOperand o s - 1) s := by
  cases o with
  | reg r => cases r <;> rfl
  | m => rfl

@[simp] theorem nextState_inx (p : Pair) : nextState (inxInstr p) s = writePair p (readPair p s + 1) s := by
  cases p <;> rfl

@[simp] theorem nextState_dcx (p : Pair) : nextState (dcxInstr p) s = writePair p (readPair p s - 1) s := by
  cases p <;> rfl

@[simp] theorem nextState_dad (p : Pair) : nextState (dadInstr p) s = addToHl p s := by
  cases p <;> rfl

@[simp] theorem nextState_daa :
    nextState .daa s = { s with a := daaResult s.a s.flags, flags := daaFlags s.a s.flags } := rfl

@[simp] theorem nextState_rlc : nextState .rlc s =
    rotateTo (s.a.extractLsb' 0 7 ++ BitVec.ofBool (s.a.getLsbD 7)) (s.a.getLsbD 7) s := rfl

@[simp] theorem nextState_rrc : nextState .rrc s =
    rotateTo (BitVec.ofBool (s.a.getLsbD 0) ++ s.a.extractLsb' 1 7) (s.a.getLsbD 0) s := rfl

@[simp] theorem nextState_ral : nextState .ral s =
    rotateTo (s.a.extractLsb' 0 7 ++ BitVec.ofBool s.flags.cy) (s.a.getLsbD 7) s := rfl

@[simp] theorem nextState_rar : nextState .rar s =
    rotateTo (BitVec.ofBool s.flags.cy ++ s.a.extractLsb' 1 7) (s.a.getLsbD 0) s := rfl

@[simp] theorem nextState_cma : nextState .cma s = { s with a := ~~~s.a } := rfl

@[simp] theorem nextState_cmc : nextState .cmc s = { s with flags := { s.flags with cy := !s.flags.cy } } := rfl

@[simp] theorem nextState_stc : nextState .stc s = { s with flags := { s.flags with cy := true } } := rfl

@[simp] theorem nextState_push (p : StackPair) : nextState (pushInstr p) s = push16 (readStackPair p s) s := by
  cases p <;> rfl

@[simp] theorem nextState_pop (p : StackPair) :
    nextState (popInstr p) s = writeStackPair p (pop16 s).1 (pop16 s).2 := by
  cases p <;> rfl

@[simp] theorem nextState_xthl : nextState .xthl s =
    { memWrite (s.sp + 1) s.h (memWrite s.sp s.l s) with l := memRead s.sp s, h := memRead (s.sp + 1) s } := rfl

@[simp] theorem nextState_sphl : nextState .sphl s = { s with sp := readPair .hl s } := rfl

@[simp] theorem nextState_jmp (a16 : Word) : nextState (.jmp a16) s = jumpTo a16 s := rfl

@[simp] theorem nextState_jumpCond (a16 : Word) (cond : Cond) :
    nextState (jumpCondInstr cond a16) s = onCond cond (jumpTo a16) s := by
  cases cond <;> rfl

@[simp] theorem nextState_call (a16 : Word) : nextState (.call a16) s = callTo a16 s := rfl

@[simp] theorem nextState_callCond (a16 : Word) (cond : Cond) :
    nextState (callCondInstr cond a16) s = onCond cond (callTo a16) s := by
  cases cond <;> rfl

@[simp] theorem nextState_ret : nextState .ret s = returnFrom s := rfl

@[simp] theorem nextState_returnCond (cond : Cond) : nextState (returnCondInstr cond) s = onCond cond returnFrom s := by
  cases cond <;> rfl

@[simp] theorem nextState_rst (n : BitVec 3) : nextState (rstInstr n) s = callTo (restartTarget n) s := by
  obtain ⟨k, hk⟩ := n
  interval_cases k <;> rfl

@[simp] theorem nextState_pchl : nextState .pchl s = jumpTo (readPair .hl s) s := rfl

@[simp] theorem nextState_inPort (port : Byte) :
    nextState (.inPort port) s = { (ioRead port s).2 with a := inputByte port s } := rfl

@[simp] theorem nextState_outPort (port : Byte) : nextState (.outPort port) s = ioWrite port s.a s := rfl

@[simp] theorem nextState_ei : nextState .ei s = { s with inte := true } := rfl

@[simp] theorem nextState_di : nextState .di s = { s with inte := false } := rfl

@[simp] theorem nextState_nop : nextState .nop s = s := rfl

@[simp] theorem nextState_hlt : nextState .hlt s = { s with halted := true } := rfl

/-- The twelve undefined opcodes have one meaning (R271). -/
theorem nextState_undefined {i : Instr} (h : i.wellFormed = false) :
    nextState i s = raiseUnimplemented (opcodeOf i) s := by
  cases i <;> cases h <;> rfl

end

end Sys2Proof.Machine

/-! Registers and pairs (10_state.md R21, R23). -/

namespace Sys2Proof.Machine

open Sys2Proof.Claims

/-- A register read after a register write (R21). -/
theorem readReg_writeReg (r q : Reg) (v : Byte) (s : State) :
    readReg q (writeReg r v s) = if q = r then v else readReg q s := by
  cases r <;> cases q <;> rfl

/-- A register write changes nothing but the seven registers. -/
theorem writeReg_eq_with_registers (r : Reg) (v : Byte) (s : State) : writeReg r v s =
    { s with a := (writeReg r v s).a, b := (writeReg r v s).b, c := (writeReg r v s).c, d := (writeReg r v s).d,
             e := (writeReg r v s).e, h := (writeReg r v s).h, l := (writeReg r v s).l } := by
  cases r <;> rfl

/-- The first register named is the high byte (R23). -/
theorem readPair_toNat (p : Pair) (s : State) : (readPair p s).toNat = pairValue p s := by
  cases p with
  | bc | de | hl => exact wordOf_toNat _ _
  | sp => rfl

/-- Writing a pair writes the two halves of the integer (R23). -/
theorem writePair_eq_withPair (p : Pair) (v : Word) (s : State) : writePair p v s = withPair p v.toNat s := by
  cases p with
  | bc | de | hl => simp only [writePair, withPair, hiByte_eq, loByte_eq]
  | sp => simp [writePair, withPair]

theorem readPair_writePair (p : Pair) (v : Word) (s : State) : readPair p (writePair p v s) = v := by
  cases p with
  | bc | de | hl => exact wordOf_loByte_hiByte v
  | sp => rfl

/-- Settles O8, from the read-after-write law of registers and the two halves of a pair. -/
theorem registerFileReadAfterWrite : Obligations.RegisterFileReadAfterWrite :=
  ⟨readReg_writeReg, writeReg_eq_with_registers, readPair_toNat, writePair_eq_withPair, readPair_writePair⟩


/-- An ended core's step changes nothing (R45). -/
theorem step_ended {s : State} (h : ¬ Running s) : step s = .next s := by
  unfold step
  split
  · rfl
  · rfl
  · next hf hh => exact absurd ⟨hf, hh⟩ h

end Sys2Proof.Machine

/-! Non-interference of INTE and AC: changing either and then running an instruction is running it and then changing it,
unless the instruction overwrites it (10_state.md R30, R32). -/

namespace Sys2Proof.Machine

open Sys2Proof.Claims

/-- The state with INTE and AC changed, each by a function of its old value. -/
def retag (inte ac : Bool → Bool) (s : State) : State :=
  { s with inte := inte s.inte, flags := { s.flags with ac := ac s.flags.ac } }

theorem retag_const_id (b : Bool) (s : State) : retag (fun _ => b) id s = { s with inte := b } := rfl

theorem retag_id_const (b : Bool) (s : State) :
    retag id (fun _ => b) s = { s with flags := { s.flags with ac := b } } := rfl

section
variable (j k : Bool → Bool) (s : State)

/-! What the operations read. -/

@[simp] theorem retag_a : (retag j k s).a = s.a := rfl
@[simp] theorem retag_b : (retag j k s).b = s.b := rfl
@[simp] theorem retag_c : (retag j k s).c = s.c := rfl
@[simp] theorem retag_d : (retag j k s).d = s.d := rfl
@[simp] theorem retag_e : (retag j k s).e = s.e := rfl
@[simp] theorem retag_h : (retag j k s).h = s.h := rfl
@[simp] theorem retag_l : (retag j k s).l = s.l := rfl
@[simp] theorem retag_sp : (retag j k s).sp = s.sp := rfl
@[simp] theorem retag_pc : (retag j k s).pc = s.pc := rfl
@[simp] theorem retag_cy : (retag j k s).flags.cy = s.flags.cy := rfl
@[simp] theorem retag_halted : (retag j k s).halted = s.halted := rfl
@[simp] theorem retag_fault : (retag j k s).fault = s.fault := rfl

@[simp] theorem memRead_retag (x : Word) : memRead x (retag j k s) = memRead x s := rfl

@[simp] theorem readReg_retag (r : Reg) : readReg r (retag j k s) = readReg r s := by cases r <;> rfl

@[simp] theorem readPair_retag (p : Pair) : readPair p (retag j k s) = readPair p s := by cases p <;> rfl

@[simp] theorem pointerAddr_retag (p : PointerPair) : pointerAddr p (retag j k s) = pointerAddr p s := by
  cases p <;> rfl

@[simp] theorem readOperand_retag (o : Operand) : readOperand o (retag j k s) = readOperand o s := by
  cases o with
  | reg r => exact readReg_retag j k s r
  | m => rfl

@[simp] theorem inputByte_retag (port : Byte) : inputByte port (retag j k s) = inputByte port s := rfl

@[simp] theorem condHolds_retag (cond : Cond) : condHolds cond (retag j k s).flags = condHolds cond s.flags := by
  cases cond <;> rfl

/-! What the operations write. -/

@[simp] theorem memWrite_retag (x : Word) (v : Byte) : memWrite x v (retag j k s) = retag j k (memWrite x v s) := rfl

@[simp] theorem writeReg_retag (r : Reg) (v : Byte) : writeReg r v (retag j k s) = retag j k (writeReg r v s) := by
  cases r <;> rfl

@[simp] theorem writePair_retag (p : Pair) (v : Word) : writePair p v (retag j k s) = retag j k (writePair p v s) := by
  cases p <;> rfl

@[simp] theorem writeOperand_retag (o : Operand) (v : Byte) :
    writeOperand o v (retag j k s) = retag j k (writeOperand o v s) := by
  cases o with
  | reg r => exact writeReg_retag j k s r v
  | m => rfl

@[simp] theorem storeZSP_retag (o : Operand) (v : Byte) : storeZSP o v (retag j k s) = retag j k (storeZSP o v s) := by
  simp only [storeZSP, writeOperand_retag]
  rfl

@[simp] theorem addToHl_retag (p : Pair) : addToHl p (retag j k s) = retag j k (addToHl p s) := by
  simp only [addToHl, readPair_retag]
  rfl

@[simp] theorem rotateTo_retag (w : Byte) (evicted : Bool) :
    rotateTo w evicted (retag j k s) = retag j k (rotateTo w evicted s) := rfl

@[simp] theorem push16_retag (v : Word) : push16 v (retag j k s) = retag j k (push16 v s) := rfl

@[simp] theorem pop16_retag : pop16 (retag j k s) = ((pop16 s).1, retag j k (pop16 s).2) := rfl

@[simp] theorem jumpTo_retag (x : Word) : jumpTo x (retag j k s) = retag j k (jumpTo x s) := rfl

@[simp] theorem callTo_retag (x : Word) : callTo x (retag j k s) = retag j k (callTo x s) := rfl

@[simp] theorem returnFrom_retag : returnFrom (retag j k s) = retag j k (returnFrom s) := rfl

@[simp] theorem ioWrite_retag (port v : Byte) : ioWrite port v (retag j k s) = retag j k (ioWrite port v s) := rfl

@[simp] theorem raiseUnimplemented_retag (op : Byte) :
    raiseUnimplemented op (retag j k s) = retag j k (raiseUnimplemented op s) := rfl

/-- A conditional transfer tests none of INTE and AC. -/
theorem onCond_retag (cond : Cond) {f : State → State} (hf : f (retag j k s) = retag j k (f s)) :
    onCond cond f (retag j k s) = retag j k (onCond cond f s) := by
  simp only [onCond, condHolds_retag, hf]
  split <;> rfl

/-- An ALU operation does not read AC and writes it. -/
@[simp] theorem aluApply_retag (op : AluOp) (v : Byte) : aluApply op v (retag j k s) = retag j id (aluApply op v s) := by
  cases op <;> rfl

/-- POP of a pair of registers; POP PSW loads AC. -/
theorem writeStackPair_retag (p : StackPair) (v : Word) : writeStackPair p v (retag j k s) =
    if p = .psw then retag j id (writeStackPair p v s) else retag j k (writeStackPair p v s) := by
  cases p <;> rfl

/-- Only the PSW holds AC. -/
theorem readStackPair_retag {p : StackPair} (hp : p ≠ .psw) : readStackPair p (retag j k s) = readStackPair p s := by
  cases p with
  | bc | de | hl => rfl
  | psw => exact absurd rfl hp

/-- No instruction but DAA and PUSH PSW reads AC, and none reads INTE: each of the two is kept or overwritten. -/
theorem nextState_retag {i : Instr} (hdaa : i ≠ .daa) (hpsw : i ≠ .pushPsw) :
    ∃ j' k', (j' = j ∨ j' = id) ∧ (k' = k ∨ k' = id) ∧ nextState i (retag j k s) = retag j' k' (nextState i s) := by
  induction i using instr_families with
  | daa => exact absurd rfl hdaa
  | push p =>
    have hp : p ≠ .psw := fun h => hpsw (by rw [h]; rfl)
    exact ⟨j, k, .inl rfl, .inl rfl, by simp [readStackPair_retag j k s hp]⟩
  | pop p =>
    by_cases hp : p = .psw
    · exact ⟨j, id, .inl rfl, .inr rfl, by simp [writeStackPair_retag, hp]⟩
    · exact ⟨j, k, .inl rfl, .inl rfl, by simp [writeStackPair_retag, hp]⟩
  | alu | aluImm => exact ⟨j, id, .inl rfl, .inr rfl, by simp⟩
  | ei | di => exact ⟨id, k, .inr rfl, .inl rfl, rfl⟩
  | jumpCond a16 cond =>
    exact ⟨j, k, .inl rfl, .inl rfl, by simpa using onCond_retag j k s cond (jumpTo_retag j k s a16)⟩
  | callCond a16 cond =>
    exact ⟨j, k, .inl rfl, .inl rfl, by simpa using onCond_retag j k s cond (callTo_retag j k s a16)⟩
  | returnCond cond =>
    exact ⟨j, k, .inl rfl, .inl rfl, by simpa using onCond_retag j k s cond (returnFrom_retag j k s)⟩
  | undefined i h => exact ⟨j, k, .inl rfl, .inl rfl, by simp [nextState_undefined _ h]⟩
  | ldax p => exact ⟨j, k, .inl rfl, .inl rfl, by cases p <;> rfl⟩
  | lda | lhld | xchg | cma | cmc | stc | xthl | sphl | inPort | hlt | nop =>
    exact ⟨j, k, .inl rfl, .inl rfl, rfl⟩
  | _ => exact ⟨j, k, .inl rfl, .inl rfl, by simp⟩

/-- No instruction reads INTE (R32). -/
theorem nextState_retag_inte (i : Instr) : ∃ j', nextState i (retag j id s) = retag j' id (nextState i s) := by
  by_cases hdaa : i = .daa
  · exact ⟨j, by rw [hdaa]; rfl⟩
  by_cases hpsw : i = .pushPsw
  · exact ⟨j, by rw [hpsw]; rfl⟩
  obtain ⟨j', k', -, hk, h⟩ := nextState_retag j id s hdaa hpsw
  exact ⟨j', by rw [h, or_self_iff.mp hk]⟩

/-- No instruction but DAA and PUSH PSW reads AC (R30). -/
theorem nextState_retag_ac {i : Instr} (hdaa : i ≠ .daa) (hpsw : i ≠ .pushPsw) :
    ∃ k', nextState i (retag id k s) = retag id k' (nextState i s) := by
  obtain ⟨j', k', hj, -, h⟩ := nextState_retag id k s hdaa hpsw
  exact ⟨k', by rw [h, or_self_iff.mp hj]⟩

/-- The fetch reads neither. -/
theorem fetchInstr_retag : fetchInstr (retag j k s) = ((fetchInstr s).1, retag j k (fetchInstr s).2) := by
  simp only [fetchInstr, fetchByte, memRead_retag, retag_pc]
  cases gridCell (memRead s.pc s) <;> rfl

end

/-- Settles O52: the fetch does not read INTE, and no instruction does. -/
theorem interruptEnableInfluencesNothing : Obligations.InterruptEnableInfluencesNothing := by
  intro s t b h
  rw [← retag_const_id]
  obtain ⟨hended, rfl⟩ | ⟨hrun, hexec⟩ := step_cases h
  · exact ⟨b, step_ended hended⟩
  · obtain rfl := exec_eq_next_iff.mp hexec
    obtain ⟨j, hj⟩ := nextState_retag_inte (fun _ => b) (fetchInstr s).2 (fetchInstr s).1
    refine ⟨j (nextState (fetchInstr s).1 (fetchInstr s).2).inte, ?_⟩
    rw [step_running (s := retag _ _ s) hrun, fetchInstr_retag, exec_eq_next, hj]
    rfl

/-- Settles O53: each instruction but DAA and PUSH PSW keeps AC or overwrites it. -/
theorem auxCarryReadOnlyByDaaAndPushPsw : Obligations.AuxCarryReadOnlyByDaaAndPushPsw := by
  intro i s t b hdaa hpsw h
  obtain rfl := exec_eq_next_iff.mp h
  obtain ⟨k, hk⟩ := nextState_retag_ac (fun _ => b) s hdaa hpsw
  exact ⟨k (nextState i s).flags.ac, by rw [← retag_id_const, exec_eq_next, hk]; rfl⟩

end Sys2Proof.Machine

/-! Frames: what each instruction may write (the tables of Machine/Effects.lean), and the state it keeps. -/

namespace Sys2Proof.Machine

/-- What an operation may write of the registers, the flags, SP and PC. -/
structure Footprint where
  regs : List Reg := []
  flags : List FlagName := []
  sp : Bool := false
  pc : Bool := false

/-- The row of an instruction in the tables of Machine/Effects.lean. -/
def footprint (i : Instr) : Footprint :=
  { regs := writtenRegs i, flags := writtenFlags i, sp := writesSp i, pc := writesPc i }

/-- All five flags (R30). -/
def allFlags : List FlagName := [.z, .s, .p, .cy, .ac]

/-- The registers an operand stands for: M is none. -/
def operandRegs : Operand → List Reg
  | .reg r => [r]
  | .m => []

/-- The registers of a pair (R23): SP is none. -/
def pairRegs : Pair → List Reg
  | .bc => [.b, .c]
  | .de => [.d, .e]
  | .hl => [.h, .l]
  | .sp => []

/-- What a write of a pair may write. -/
def pairFootprint (p : Pair) : Footprint := { regs := pairRegs p, sp := decide (p = .sp) }

/-- What an ALU operation may write: CMP discards the difference (R159). -/
def aluFootprint (op : AluOp) : Footprint := { regs := if op = .cmp then [] else [.a], flags := allFlags }

/-- What a pop may write. -/
def popFootprint : StackPair → Footprint
  | .bc => { regs := [.b, .c], sp := true }
  | .de => { regs := [.d, .e], sp := true }
  | .hl => { regs := [.h, .l], sp := true }
  | .psw => { regs := [.a], flags := allFlags, sp := true }

@[simp] theorem footprint_movReg (r : Reg) (o : Operand) : footprint (movInstr (.reg r) o) = { regs := [r] } := by
  cases o with
  | reg q => cases r <;> cases q <;> rfl
  | m => cases r <;> rfl

@[simp] theorem footprint_movMem (r : Reg) : footprint (movInstr .m (.reg r)) = {} := by cases r <;> rfl

@[simp] theorem footprint_mvi (v : Byte) (o : Operand) : footprint (mviInstr o v) = { regs := operandRegs o } := by
  cases o with
  | reg r => cases r <;> rfl
  | m => rfl

@[simp] theorem footprint_lxi (w : Word) (p : Pair) : footprint (lxiInstr p w) = pairFootprint p := by cases p <;> rfl

@[simp] theorem footprint_ldax (p : PointerPair) : footprint (ldaxInstr p) = { regs := [.a] } := by cases p <;> rfl

@[simp] theorem footprint_stax (p : PointerPair) : footprint (staxInstr p) = {} := by cases p <;> rfl

@[simp] theorem footprint_alu (op : AluOp) (o : Operand) : footprint (aluInstr op o) = aluFootprint op := by
  cases o with
  | reg r => cases op <;> cases r <;> rfl
  | m => cases op <;> rfl

@[simp] theorem footprint_aluImm (v : Byte) (op : AluOp) : footprint (aluImmInstr op v) = aluFootprint op := by
  cases op <;> rfl

@[simp] theorem footprint_inr (o : Operand) :
    footprint (inrInstr o) = { regs := operandRegs o, flags := [.z, .s, .p] } := by
  cases o with
  | reg r => cases r <;> rfl
  | m => rfl

@[simp] theorem footprint_dcr (o : Operand) :
    footprint (dcrInstr o) = { regs := operandRegs o, flags := [.z, .s, .p] } := by
  cases o with
  | reg r => cases r <;> rfl
  | m => rfl

@[simp] theorem footprint_inx (p : Pair) : footprint (inxInstr p) = pairFootprint p := by cases p <;> rfl

@[simp] theorem footprint_dcx (p : Pair) : footprint (dcxInstr p) = pairFootprint p := by cases p <;> rfl

@[simp] theorem footprint_dad (p : Pair) : footprint (dadInstr p) = { regs := [.h, .l], flags := [.cy] } := by
  cases p <;> rfl

@[simp] theorem footprint_push (p : StackPair) : footprint (pushInstr p) = { sp := true } := by cases p <;> rfl

@[simp] theorem footprint_pop (p : StackPair) : footprint (popInstr p) = popFootprint p := by cases p <;> rfl

@[simp] theorem footprint_jumpCond (a16 : Word) (cond : Cond) :
    footprint (jumpCondInstr cond a16) = { pc := true } := by cases cond <;> rfl

@[simp] theorem footprint_callCond (a16 : Word) (cond : Cond) :
    footprint (callCondInstr cond a16) = { sp := true, pc := true } := by cases cond <;> rfl

@[simp] theorem footprint_returnCond (cond : Cond) :
    footprint (returnCondInstr cond) = { sp := true, pc := true } := by cases cond <;> rfl

@[simp] theorem footprint_rst (n : BitVec 3) : footprint (rstInstr n) = { sp := true, pc := true } := by
  obtain ⟨k, hk⟩ := n
  interval_cases k <;> rfl

theorem footprint_undefined {i : Instr} (h : i.wellFormed = false) : footprint i = { pc := true } := by
  cases i <;> cases h <;> rfl

/-- From `s` to `t` nothing outside the footprint is written. -/
structure Keeps (w : Footprint) (s t : State) : Prop where
  regs : ∀ r, r ∉ w.regs → readReg r t = readReg r s
  flags : ∀ f, f ∉ w.flags → flagValue f t.flags = flagValue f s.flags
  sp : w.sp = false → t.sp = s.sp
  pc : w.pc = false → t.pc = s.pc

theorem keeps_iff {w : Footprint} {s t : State} : Keeps w s t ↔
    (∀ r, r ∉ w.regs → readReg r t = readReg r s) ∧ (∀ f, f ∉ w.flags → flagValue f t.flags = flagValue f s.flags) ∧
      (w.sp = false → t.sp = s.sp) ∧ (w.pc = false → t.pc = s.pc) :=
  ⟨fun h => ⟨h.regs, h.flags, h.sp, h.pc⟩, fun ⟨hregs, hflags, hsp, hpc⟩ => ⟨hregs, hflags, hsp, hpc⟩⟩

theorem Keeps.refl (w : Footprint) (s : State) : Keeps w s s :=
  ⟨fun _ _ => rfl, fun _ _ => rfl, fun _ => rfl, fun _ => rfl⟩

theorem Keeps.trans {w : Footprint} {s t u : State} (h : Keeps w s t) (h' : Keeps w t u) : Keeps w s u :=
  ⟨fun r hr => (h'.regs r hr).trans (h.regs r hr), fun f hf => (h'.flags f hf).trans (h.flags f hf),
    fun hsp => (h'.sp hsp).trans (h.sp hsp), fun hpc => (h'.pc hpc).trans (h.pc hpc)⟩

section
variable (s : State)

theorem memWrite_keeps (w : Footprint) (x : Word) (v : Byte) : Keeps w s (memWrite x v s) :=
  ⟨fun r _ => by cases r <;> rfl, fun _ _ => rfl, fun _ => rfl, fun _ => rfl⟩

theorem writeReg_keeps (r : Reg) (v : Byte) : Keeps { regs := [r] } s (writeReg r v s) :=
  ⟨fun q hq => by rw [readReg_writeReg, if_neg (by simpa using hq)], by simp, by simp, by simp⟩

theorem writeOperand_keeps (o : Operand) (v : Byte) : Keeps { regs := operandRegs o } s (writeOperand o v s) := by
  cases o with
  | reg r => exact writeReg_keeps s r v
  | m => exact memWrite_keeps s _ _ v

theorem writePair_keeps (p : Pair) (v : Word) : Keeps (pairFootprint p) s (writePair p v s) := by
  cases p <;> simp [keeps_iff, Reg.forall_iff, pairFootprint, pairRegs, writePair, readReg]

theorem storeZSP_keeps (o : Operand) (v : Byte) :
    Keeps { regs := operandRegs o, flags := [.z, .s, .p] } s (storeZSP o v s) := by
  have h := writeOperand_keeps s o v
  refine ⟨fun r hr => ?_, fun f hf => ?_, h.sp, h.pc⟩
  · rw [← h.regs r hr]
    cases r <;> rfl
  · cases f <;> simp_all [storeZSP, setZSP, flagValue]

theorem addToHl_keeps (p : Pair) : Keeps { regs := [.h, .l], flags := [.cy] } s (addToHl p s) := by
  simp [keeps_iff, Reg.forall_iff, FlagName.forall_iff, addToHl, writePair, readReg, flagValue]

theorem rotateTo_keeps (v : Byte) (evicted : Bool) :
    Keeps { regs := [.a], flags := [.cy] } s (rotateTo v evicted s) := by
  simp [keeps_iff, Reg.forall_iff, FlagName.forall_iff, rotateTo, readReg, flagValue]

theorem aluApply_keeps (op : AluOp) (v : Byte) : Keeps (aluFootprint op) s (aluApply op v s) := by
  cases op <;> simp [keeps_iff, Reg.forall_iff, FlagName.forall_iff, aluFootprint, allFlags, aluApply, aluAdd, aluSub,
    aluLogic, aluCmp, readReg]

theorem push16_keeps (v : Word) : Keeps { sp := true } s (push16 v s) := by
  simp [keeps_iff, Reg.forall_iff, readReg]

theorem pop_keeps (p : StackPair) : Keeps (popFootprint p) s (writeStackPair p (pop16 s).1 (pop16 s).2) := by
  cases p <;> simp [keeps_iff, Reg.forall_iff, FlagName.forall_iff, popFootprint, allFlags, writeStackPair, writePair,
    readReg]

theorem callTo_keeps (x : Word) : Keeps { sp := true, pc := true } s (callTo x s) := by
  simp [keeps_iff, Reg.forall_iff, callTo, readReg]

theorem returnFrom_keeps : Keeps { sp := true, pc := true } s (returnFrom s) := by
  simp [keeps_iff, Reg.forall_iff, returnFrom, readReg]

theorem jumpTo_keeps (x : Word) : Keeps { pc := true } s (jumpTo x s) := by
  simp [keeps_iff, Reg.forall_iff, readReg]

theorem onCond_keeps {w : Footprint} (cond : Cond) {f : State → State} (h : Keeps w s (f s)) :
    Keeps w s (onCond cond f s) := by
  unfold onCond
  split
  · exact h
  · exact .refl w s

/-- What every instruction keeps, by the tables of Machine/Effects.lean. -/
theorem nextState_keeps (i : Instr) : Keeps (footprint i) s (nextState i s) := by
  induction i using instr_families with
  | movReg r o => simpa using writeReg_keeps s r _
  | movMem r => simpa using memWrite_keeps s _ _ _
  | mvi v o => simpa using writeOperand_keeps s o v
  | lxi _ p | inx p | dcx p => simpa using writePair_keeps s p _
  | sta a16 => exact memWrite_keeps s _ _ _
  | shld a16 => exact (memWrite_keeps s _ a16 s.l).trans (memWrite_keeps _ _ _ _)
  | stax p => simpa using memWrite_keeps s _ _ _
  | alu op o => simpa using aluApply_keeps s op _
  | aluImm v op => simpa using aluApply_keeps s op v
  | inr o | dcr o => simpa using storeZSP_keeps s o _
  | dad p => simpa using addToHl_keeps s p
  | rlc | rrc | ral | rar => exact rotateTo_keeps s _ _
  | push p => simpa using push16_keeps s _
  | pop p => simpa using pop_keeps s p
  | jmp a16 => exact jumpTo_keeps s a16
  | pchl => exact jumpTo_keeps s _
  | jumpCond a16 cond => simpa using onCond_keeps s cond (jumpTo_keeps s a16)
  | call a16 => exact callTo_keeps s a16
  | callCond a16 cond => simpa using onCond_keeps s cond (callTo_keeps s a16)
  | rst n => simpa using callTo_keeps s (restartTarget n)
  | ret => exact returnFrom_keeps s
  | returnCond cond => simpa using onCond_keeps s cond (returnFrom_keeps s)
  | undefined i h =>
    rw [footprint_undefined h, nextState_undefined s h]
    simp [keeps_iff, Reg.forall_iff, readReg]
  | ldax | ei | di | hlt | outPort => simp [keeps_iff, Reg.forall_iff, readReg]
  | nop => exact .refl _ s
  | lda | lhld | xchg | daa | cma | cmc | stc | xthl | sphl | inPort =>
    simp [keeps_iff, footprint, writtenRegs, writtenFlags, writesSp, writesPc, Reg.forall_iff, FlagName.forall_iff,
      readReg, flagValue]

end

/-- Settles O47, from the footprint of each instruction. -/
theorem unwrittenRegistersUnchanged : Obligations.UnwrittenRegistersUnchanged := by
  intro i s t r h hr
  obtain rfl := exec_eq_next_iff.mp h
  exact (nextState_keeps s i).regs r hr

/-- Settles O48, from the footprint of each instruction. -/
theorem unwrittenFlagsUnchanged : Obligations.UnwrittenFlagsUnchanged := by
  intro i s t f h hf
  obtain rfl := exec_eq_next_iff.mp h
  exact (nextState_keeps s i).flags f hf

end Sys2Proof.Machine

/-! The special state: INTE, the two latches and the model's record of the I/O environment. -/

namespace Sys2Proof.Machine

/-- INTE, HALTED, FAULT (R32, R36, R37) and the four fields of the I/O environment (log entries 2 and 4). -/
def special (s : State) : Bool × Bool × Option Fault × InHandler × Nat × List Byte × List (Byte × Byte) :=
  (s.inte, s.halted, s.fault, s.inHandler, s.inReads, s.inPorts, s.outputs)

section
variable (s : State)

@[simp] theorem special_memWrite (x : Word) (v : Byte) : special (memWrite x v s) = special s := rfl

@[simp] theorem special_writeReg (r : Reg) (v : Byte) : special (writeReg r v s) = special s := by simp [special]

@[simp] theorem special_writePair (p : Pair) (v : Word) : special (writePair p v s) = special s := by simp [special]

@[simp] theorem special_writeOperand (o : Operand) (v : Byte) : special (writeOperand o v s) = special s := by
  simp [special]

@[simp] theorem special_storeZSP (o : Operand) (v : Byte) : special (storeZSP o v s) = special s :=
  special_writeOperand s o v

@[simp] theorem special_addToHl (p : Pair) : special (addToHl p s) = special s := rfl

@[simp] theorem special_rotateTo (w : Byte) (evicted : Bool) : special (rotateTo w evicted s) = special s := rfl

@[simp] theorem special_aluApply (op : AluOp) (v : Byte) : special (aluApply op v s) = special s := by cases op <;> rfl

@[simp] theorem special_push16 (v : Word) : special (push16 v s) = special s := rfl

@[simp] theorem special_pop16 : special (pop16 s).2 = special s := rfl

@[simp] theorem special_writeStackPair (p : StackPair) (v : Word) : special (writeStackPair p v s) = special s := by
  cases p <;> rfl

@[simp] theorem special_jumpTo (x : Word) : special (jumpTo x s) = special s := rfl

@[simp] theorem special_callTo (x : Word) : special (callTo x s) = special s := rfl

@[simp] theorem special_returnFrom : special (returnFrom s) = special s := rfl

theorem special_onCond (cond : Cond) {f : State → State} (hf : special (f s) = special s) :
    special (onCond cond f s) = special s := by
  unfold onCond
  split
  · exact hf
  · rfl

end

/-- From `s` to `t` the special state changes at most as the rules allow an instruction (R32, R34, R36, R37). -/
structure SpecialFrame (i : Instr) (s t : State) : Prop where
  inte : i ≠ .ei → i ≠ .di → t.inte = s.inte
  halted : i ≠ .hlt → t.halted = s.halted
  fault : i.wellFormed = true → t.fault = s.fault
  input : (∀ port, i ≠ .inPort port) → t.inHandler = s.inHandler ∧ t.inReads = s.inReads ∧ t.inPorts = s.inPorts
  output : (∀ port, i ≠ .outPort port) → t.outputs = s.outputs

theorem SpecialFrame.of_special_eq {s t : State} (h : special t = special s) (i : Instr) : SpecialFrame i s t := by
  simp only [special, Prod.mk.injEq] at h
  obtain ⟨hinte, hhalted, hfault, hhandler, hreads, hports, houtputs⟩ := h
  exact ⟨fun _ _ => hinte, fun _ => hhalted, fun _ => hfault, fun _ => ⟨hhandler, hreads, hports⟩, fun _ => houtputs⟩

/-- EI, DI, HLT, IN, OUT and the undefined opcodes write their part of the special state; every other instruction keeps
it whole. -/
theorem nextState_specialFrame (i : Instr) (s : State) : SpecialFrame i s (nextState i s) := by
  induction i using instr_families with
  | ei | di | hlt | inPort | outPort => constructor <;> simp
  | undefined i h =>
    rw [nextState_undefined s h]
    constructor <;> simp [h]
  | jumpCond a16 cond | callCond a16 cond | returnCond cond =>
    exact .of_special_eq (by simpa using special_onCond s cond (by simp)) _
  | lda | lhld | ldax | xchg | daa | cma | cmc | stc | xthl | sphl | nop =>
    exact .of_special_eq (by simp [special]) _
  | _ => exact .of_special_eq (by simp) _

/-- Settles O49: SP by the footprint, the rest by the frame of the special state. -/
theorem specialStateWrittenOnlyByItsInstructions : Obligations.SpecialStateWrittenOnlyByItsInstructions := by
  intro i s t h
  obtain rfl := exec_eq_next_iff.mp h
  obtain ⟨hinte, hhalted, hfault, hinput, houtput⟩ := nextState_specialFrame i s
  exact ⟨(nextState_keeps s i).sp, hinte, hhalted, hfault, hinput, houtput⟩

end Sys2Proof.Machine

/-! The step (10_state.md R26, R27, R36, R37, R45). -/

namespace Sys2Proof.Machine

/-- The instruction the decoder reads at PC is the one fetched. -/
theorem eq_fetchInstr_of_decode {s : State} {i : Instr} {rest : List Byte}
    (h : decode (bytesAtPc s) = .ok (i, rest)) : i = (fetchInstr s).1 := by
  obtain ⟨rest', h'⟩ := decode_bytesAtPc s
  rw [h', Except.ok.injEq, Prod.mk.injEq] at h
  exact h.1.symm

/-- Settles O42: the fetch reads the decoded instruction and moves PC past its bytes. -/
theorem stepRunsDecodedInstruction : Obligations.StepRunsDecodedInstruction := by
  intro s i rest hrun hdecode
  rw [step_running hrun, fetchInstr_state, eq_fetchInstr_of_decode hdecode]

/-- Settles O50: PC is past the bytes when the meaning starts, and the meaning keeps it. -/
theorem pcAdvancesByLength : Obligations.PcAdvancesByLength := by
  intro s t i rest hrun hdecode hpc hstep
  rw [stepRunsDecodedInstruction s i rest hrun hdecode, exec_eq_next_iff] at hstep
  rw [← hstep, (nextState_keeps _ i).pc hpc]

/-- The undefined instructions are those with the opcodes of R96. -/
theorem wellFormed_eq (i : Instr) : i.wellFormed = !undefinedOpcodes.contains (opcodeOf i) := by
  cases i <;> rfl

theorem wellFormed_fetchInstr_iff (s : State) :
    (fetchInstr s).1.wellFormed = true ↔ memRead s.pc s ∉ undefinedOpcodes := by
  rw [wellFormed_eq, fetchInstr_opcode]
  simp

/-- An undefined opcode is fetched as one byte (R96; log entry 6). -/
theorem encode_length_of_undefined {i : Instr} (h : i.wellFormed = false) : (encode i).length = 1 := by
  cases i <;> cases h <;> rfl

/-- The opcode 0x76 is HLT's and no other's. -/
theorem fetchInstr_eq_hlt_iff (s : State) : (fetchInstr s).1 = .hlt ↔ memRead s.pc s = 0x76#8 := by
  constructor
  · intro h
    rw [← fetchInstr_opcode, h]
    rfl
  · intro h
    simp only [fetchInstr, fetchByte, h]
    rfl

@[simp] theorem fetchInstr_halted (s : State) : (fetchInstr s).2.halted = s.halted := by rw [fetchInstr_state]

@[simp] theorem fetchInstr_fault (s : State) : (fetchInstr s).2.fault = s.fault := by rw [fetchInstr_state]

/-- The step at an undefined opcode: PC is put back and FAULT takes the record (R271). -/
theorem step_undefined {s : State} (hrun : Running s) (hop : memRead s.pc s ∈ undefinedOpcodes) :
    step s = .next { s with fault := some (.unimplementedOpcode (memRead s.pc s) s.pc) } := by
  have hill : (fetchInstr s).1.wellFormed = false :=
    Bool.eq_false_iff.mpr fun h => (wellFormed_fetchInstr_iff s).mp h hop
  have hpc : (fetchInstr s).2 = { s with pc := s.pc + 1 } := by
    rw [fetchInstr_state, encode_length_of_undefined hill]
    rfl
  rw [step_running hrun, exec_eq_next, nextState_undefined _ hill, fetchInstr_opcode, hpc]
  simp [raiseUnimplemented, raiseFault]

/-- The result of a step at a defined opcode: only HLT sets HALTED, and nothing sets FAULT. -/
theorem stepResult_defined {s : State} (hrun : Running s) (hop : memRead s.pc s ∉ undefinedOpcodes) :
    stepResult (nextState (fetchInstr s).1 (fetchInstr s).2) =
      if memRead s.pc s = 0x76#8 then .halted else .continued := by
  obtain ⟨hfault, hhalted⟩ := hrun
  have frame := nextState_specialFrame (fetchInstr s).1 (fetchInstr s).2
  have hf := frame.fault ((wellFormed_fetchInstr_iff s).mpr hop)
  split
  · next h => simp [(fetchInstr_eq_hlt_iff s).mpr h, stepResult, hfault]
  · next h =>
    have hh := frame.halted (mt (fetchInstr_eq_hlt_iff s).mp h)
    simp [stepResult, hf, hh, hfault, hhalted]

/-- Settles O43: the four cases of the step. -/
theorem stepFollowsItsProcedure : Obligations.StepFollowsItsProcedure := by
  intro s
  refine ⟨fun record hf => ?faulted, fun hf hh => ?halted, fun hrun hop => ?undefined, fun hrun hop => ?defined⟩
  case faulted => exact ⟨step_ended fun hrun => by simp [hrun.1] at hf, by simp [stepResult, hf]⟩
  case halted => exact ⟨step_ended fun hrun => by simp [hrun.2] at hh, by simp [stepResult, hf, hh]⟩
  case undefined => exact ⟨_, step_undefined hrun hop, rfl, rfl⟩
  case defined =>
    obtain ⟨rest, hdecode⟩ := decode_bytesAtPc s
    refine ⟨_, rest, _, hdecode, fetchInstr_opcode s, ?_, ?_, stepResult_defined hrun hop⟩
    · rw [← fetchInstr_state, exec_eq_next]
    · rw [step_running hrun, exec_eq_next]

end Sys2Proof.Machine

/-! Reset and the host (10_state.md R39, R46). -/

namespace Sys2Proof.Machine

/-- Settles O45: the reset memory is canonical and neither latch is set. -/
theorem resetMeetsInvariant : Obligations.ResetMeetsInvariant where
  mem_wf := Memory.reset_wf
  halted_after_hlt h := nomatch h
  fault_at_opcode _ h := nomatch h
  one_latch h := nomatch h.1

/-- Settles O55, register by register and flag by flag; the empty memory reads as the reset value. -/
theorem resetIsAllZero : Obligations.ResetIsAllZero :=
  ⟨fun r => by cases r <;> rfl, fun f => by cases f <;> rfl, rfl, rfl, rfl, fun _ => rfl, rfl, rfl⟩

/-- After the first step every host write is refused (R46). -/
theorem hostWrite_started {n : Session} (h : n.started = true) (answer : Answer) :
    hostWrite n answer = .refused .hostWriteAfterStart := by
  simp [hostWrite, h]

/-- Settles O58: the four host writes go through `hostWrite`; RESET and the step do not. -/
theorem hostWritesRefusedAfterStart : Obligations.HostWritesRefusedAfterStart := by
  intro n
  refine ⟨fun h _ _ _ => ?writes, rfl, fun t ht => ?step⟩
  case writes => simp only [hostAct, hostWrite_started h, and_self]
  case step => simp only [hostAct, ht]

end Sys2Proof.Machine

/-! Memory (20_memory.md R52, R53), fetching a word (R55) and the stack (R58, R59). -/

namespace Sys2Proof.Machine

open Sys2Proof.Claims

/-- A read after a store (R52, R53). -/
theorem memRead_memWrite (x y : Word) (v : Byte) (s : State) :
    memRead y (memWrite x v s) = if y = x then v else memRead y s := by
  simp only [memRead, memWrite_mem, Memory.read_write, BitVec.toNat_inj]

/-- Settles O6: the law of the cell list read off the state; a store is an update of the memory field. -/
theorem memoryReadAfterWrite : Obligations.MemoryReadAfterWrite :=
  fun s x y v => ⟨memRead_memWrite x y v s, rfl⟩

/-- A canonical memory without its first cell reads as before but for that cell's address. -/
theorem Memory.read_tail {lo a : Nat} {w : Byte} {m : Memory} (h : Memory.wfFrom lo ((a, w) :: m) = true) (n : Nat) :
    Memory.read m n = if n = a then Config.memReset else Memory.read ((a, w) :: m) n := by
  obtain ⟨-, htail⟩ := (Memory.wfFrom_cons lo a w m).mp h
  split
  · next hn => exact Memory.read_below m (a + 1) n htail (by omega)
  · next hn => rw [Memory.read, if_neg (Ne.symm hn)]

/-- The first cell of a canonical memory shows: no memory whose cells all lie above it reads the same there. -/
theorem Memory.read_first_ne {lo a : Nat} {w : Byte} {m m' : Memory} (h : Memory.wfFrom lo ((a, w) :: m) = true)
    (h' : Memory.wfFrom (a + 1) m' = true) : Memory.read ((a, w) :: m) a ≠ Memory.read m' a := by
  obtain ⟨⟨-, -, hw⟩, -⟩ := (Memory.wfFrom_cons lo a w m).mp h
  rw [Memory.read_below m' (a + 1) a h' (Nat.lt_succ_self a)]
  simpa [Memory.read] using hw

/-- Of two canonical memories that read the same, neither has its first cell below the other's. -/
theorem Memory.first_le_first {lo lo' a a' : Nat} {w w' : Byte} {m m' : Memory}
    (h : Memory.wfFrom lo ((a, w) :: m) = true) (h' : Memory.wfFrom lo' ((a', w') :: m') = true)
    (heq : ∀ n, Memory.read ((a, w) :: m) n = Memory.read ((a', w') :: m') n) : a' ≤ a := by
  by_contra hlt
  obtain ⟨⟨-, hcell⟩, htail⟩ := (Memory.wfFrom_cons lo' a' w' m').mp h'
  exact Memory.read_first_ne h ((Memory.wfFrom_cons (a + 1) a' w' m').mpr ⟨⟨by omega, hcell⟩, htail⟩) (heq a)

/-- Canonical memories that read the same are equal, cell by cell. -/
theorem Memory.eq_of_read_eq (m m' : Memory) (lo : Nat) (h : Memory.wfFrom lo m = true)
    (h' : Memory.wfFrom lo m' = true) (heq : ∀ n, Memory.read m n = Memory.read m' n) : m = m' := by
  induction m generalizing m' lo with
  | nil =>
    cases m' with
    | nil => rfl
    | cons cell m' => exact absurd (heq cell.1).symm (Memory.read_first_ne h' rfl)
  | cons cell m ih =>
    cases m' with
    | nil => exact absurd (heq cell.1) (Memory.read_first_ne h rfl)
    | cons cell' m' =>
      obtain ⟨a, w⟩ := cell
      obtain ⟨a', w'⟩ := cell'
      obtain rfl : a = a' :=
        Nat.le_antisymm (Memory.first_le_first h' h fun n => (heq n).symm) (Memory.first_le_first h h' heq)
      obtain rfl : w = w' := by simpa [Memory.read] using heq a
      have htails : ∀ n, Memory.read m n = Memory.read m' n := fun n => by
        rw [Memory.read_tail h, Memory.read_tail h', heq]
      rw [ih m' (a + 1) ((Memory.wfFrom_cons lo a w m).mp h).2 ((Memory.wfFrom_cons lo a w m').mp h').2 htails]

/-- Settles O7, by induction on the cells from the lowest address up. -/
theorem canonicalMemoryIsUnique : Obligations.CanonicalMemoryIsUnique :=
  fun m m' h h' heq => Memory.eq_of_read_eq m m' 0 h h' heq

/-- Settles O9: two fetched bytes joined high before low; PC moves by one twice. -/
theorem fetchWordIsLittleEndian : Obligations.FetchWordIsLittleEndian := by
  intro s
  have hpc : s.pc + 1 + 1 = s.pc + 2 := by bv_omega
  exact ⟨wordOf_toNat _ _, by simp only [fetchWord, fetchByte, hpc]⟩

/-- Settles O10, from what every address reads after a push. -/
theorem pushStoresHighThenLow : Obligations.PushStoresHighThenLow := by
  intro v s
  refine ⟨by rw [← push16_sp v s]; rfl, ?stored, fun x hx => ?others⟩
  case stored => simp [pushCells, memRead_push16, hiByte, loByte]
  case others =>
    have hhigh : x ≠ s.sp - 1 := hx _ List.mem_cons_self
    have hlow : x ≠ s.sp - 2 := hx _ (List.mem_cons_of_mem _ List.mem_cons_self)
    rw [memRead_push16, if_neg hlow, if_neg hhigh]

/-- A pop takes the word at the top of the stack and moves SP past it (R59). -/
theorem pop16_eq (s : State) : pop16 s = (stackTop s, { s with sp := s.sp + 2 }) := by
  rw [← pop16_sp]
  rfl

/-- The word just pushed is at the top of the stack (R58, R59). -/
theorem stackTop_push16 (v : Word) (s : State) : stackTop (push16 v s) = v := by
  have hhigh : s.sp - 2 + 1 = s.sp - 1 := by bv_omega
  have hne : s.sp - 1 ≠ s.sp - 2 := by bv_omega
  simp only [stackTop, push16_sp, hhigh, memRead_push16, if_neg hne, if_true]
  exact wordOf_loByte_hiByte v

/-- Settles O11: the top of the stack after a push is the word pushed, and SP goes two down and two up. -/
theorem popMirrorsPush : Obligations.PopMirrorsPush := by
  refine ⟨pop16_eq, fun v s => ⟨?word, ?sp⟩⟩
  case word => rw [pop16_eq, stackTop_push16]
  case sp =>
    rw [pop16_sp, push16_sp]
    bv_omega

end Sys2Proof.Machine

/-! Memory frame (20_memory.md R61): what each instruction stores to, and the memory it keeps. -/

namespace Sys2Proof.Machine

open Sys2Proof.Claims

/-- From `s` to `t` every byte of memory outside the addresses reads as before. -/
def StoresWithin (addrs : List Word) (s t : State) : Prop := ∀ x, x ∉ addrs → memRead x t = memRead x s

/-- The addresses a write of an operand stores to: a register is none. -/
def operandAddrs : Operand → State → List Word
  | .reg _, _ => []
  | .m, s => [readPair .hl s]

section
variable (s : State)

/-! The rows of the table of Machine/Effects.lean that store, by family. -/

@[simp] theorem storedAddrs_movMem (r : Reg) : storedAddrs (movInstr .m (.reg r)) s = [readPair .hl s] := by
  cases r <;> rfl

@[simp] theorem storedAddrs_mvi (v : Byte) (o : Operand) : storedAddrs (mviInstr o v) s = operandAddrs o s := by
  cases o with
  | reg r => cases r <;> rfl
  | m => rfl

@[simp] theorem storedAddrs_inr (o : Operand) : storedAddrs (inrInstr o) s = operandAddrs o s := by
  cases o with
  | reg r => cases r <;> rfl
  | m => rfl

@[simp] theorem storedAddrs_dcr (o : Operand) : storedAddrs (dcrInstr o) s = operandAddrs o s := by
  cases o with
  | reg r => cases r <;> rfl
  | m => rfl

@[simp] theorem storedAddrs_stax (p : PointerPair) : storedAddrs (staxInstr p) s = [pointerAddr p s] := by
  cases p <;> rfl

@[simp] theorem storedAddrs_push (p : StackPair) : storedAddrs (pushInstr p) s = pushAddrs s := by cases p <;> rfl

@[simp] theorem storedAddrs_callCond (a16 : Word) (cond : Cond) :
    storedAddrs (callCondInstr cond a16) s = if condHolds cond s.flags then pushAddrs s else [] := by
  cases cond <;> rfl

@[simp] theorem storedAddrs_rst (n : BitVec 3) : storedAddrs (rstInstr n) s = pushAddrs s := by
  obtain ⟨k, hk⟩ := n
  interval_cases k <;> rfl

/-! The memory that the shared operations keep whole. -/

@[simp] theorem aluApply_mem (op : AluOp) (v : Byte) : (aluApply op v s).mem = s.mem := by cases op <;> rfl

@[simp] theorem addToHl_mem (p : Pair) : (addToHl p s).mem = s.mem := rfl

@[simp] theorem rotateTo_mem (w : Byte) (evicted : Bool) : (rotateTo w evicted s).mem = s.mem := rfl

@[simp] theorem writeStackPair_mem (p : StackPair) (v : Word) : (writeStackPair p v s).mem = s.mem := by
  cases p <;> rfl

@[simp] theorem returnFrom_mem : (returnFrom s).mem = s.mem := rfl

theorem onCond_mem (cond : Cond) {f : State → State} (h : (f s).mem = s.mem) : (onCond cond f s).mem = s.mem := by
  unfold onCond
  split
  · exact h
  · rfl

/-! Where the shared operations store. -/

theorem StoresWithin.of_mem_eq {s t : State} (h : t.mem = s.mem) (addrs : List Word) : StoresWithin addrs s t :=
  fun x _ => by rw [memRead, h, memRead]

theorem memWrite_storesWithin {addrs : List Word} {s t : State} (h : StoresWithin addrs s t) {x : Word}
    (hx : x ∈ addrs) (v : Byte) : StoresWithin addrs s (memWrite x v t) := fun y hy => by
  rw [memRead_memWrite, if_neg (ne_of_mem_of_not_mem hx hy).symm, h y hy]

theorem writeOperand_storesWithin (o : Operand) (v : Byte) :
    StoresWithin (operandAddrs o s) s (writeOperand o v s) := by
  cases o with
  | reg r => exact .of_mem_eq (by simp [writeOperand]) _
  | m => exact memWrite_storesWithin (.of_mem_eq rfl _) (by simp [operandAddrs]) v

/-- The flags that INR and DCR set are no memory. -/
theorem storeZSP_storesWithin (o : Operand) (v : Byte) : StoresWithin (operandAddrs o s) s (storeZSP o v s) :=
  writeOperand_storesWithin s o v

theorem push16_storesWithin (v : Word) : StoresWithin (pushAddrs s) s (push16 v s) := fun x hx => by
  simp only [pushAddrs, List.mem_cons, List.not_mem_nil, or_false, not_or] at hx
  rw [memRead_push16, if_neg hx.2, if_neg hx.1]

theorem callTo_storesWithin (x : Word) : StoresWithin (pushAddrs s) s (callTo x s) := push16_storesWithin s s.pc

/-- A conditional transfer that is not taken stores nothing. -/
theorem onCond_storesWithin (cond : Cond) {f : State → State} {addrs : List Word} (h : StoresWithin addrs s (f s)) :
    StoresWithin (if condHolds cond s.flags then addrs else []) s (onCond cond f s) := by
  unfold onCond
  split
  · exact h
  · exact .of_mem_eq rfl _

/-- Every instruction stores within its row of the table of Machine/Effects.lean. -/
theorem nextState_storesWithin (i : Instr) : StoresWithin (storedAddrs i s) s (nextState i s) := by
  induction i using instr_families with
  | movMem r => simpa using memWrite_storesWithin (.of_mem_eq rfl _) (by simp) _
  | mvi v o => simpa using writeOperand_storesWithin s o v
  | inr o | dcr o => simpa using storeZSP_storesWithin s o _
  | stax p => simpa using memWrite_storesWithin (.of_mem_eq rfl _) (by simp) _
  | sta a16 => exact memWrite_storesWithin (.of_mem_eq rfl _) (by simp [storedAddrs]) _
  | shld a16 | xthl =>
    exact memWrite_storesWithin (memWrite_storesWithin (.of_mem_eq rfl _) (by simp [storedAddrs]) _)
      (by simp [storedAddrs]) _
  | push p => simpa using push16_storesWithin s _
  | call a16 => exact callTo_storesWithin s a16
  | rst n => simpa using callTo_storesWithin s (restartTarget n)
  | callCond a16 cond => simpa using onCond_storesWithin s cond (callTo_storesWithin s a16)
  | jumpCond a16 cond | returnCond cond => exact .of_mem_eq (by simpa using onCond_mem s cond (by simp)) _
  | undefined i h => exact .of_mem_eq (by rw [nextState_undefined s h, raiseUnimplemented_mem]) _
  | _ => exact .of_mem_eq (by simp) _

end

/-- Settles O51, from where each instruction stores. -/
theorem memoryUnchangedOutsideStores : Obligations.MemoryUnchangedOutsideStores := by
  intro i s t x h hx
  obtain rfl := exec_eq_next_iff.mp h
  exact nextState_storesWithin s i x hx

end Sys2Proof.Machine

/-! Loading an image (20_memory.md R74). -/

namespace Sys2Proof.Machine

/-- An image that fits is loaded. -/
theorem loadProgram_of_fits {bytes : List Byte} {base : Word} (h : base.toNat + bytes.length ≤ Config.memSize)
    (s : State) : loadProgram bytes base s = .next { s with mem := Memory.load s.mem base.toNat bytes } := if_pos h

/-- An image that does not fit is refused (U10). -/
theorem loadProgram_of_not_fits {bytes : List Byte} {base : Word} (h : Config.memSize < base.toNat + bytes.length)
    (s : State) : loadProgram bytes base s = .refused .imageDoesNotFit := if_neg (Nat.not_le.mpr h)

/-- Settles O56, from what a load puts at each address; the image does not wrap, so byte k stands at base + k. -/
theorem loadProgramCopiesImage : Obligations.LoadProgramCopiesImage := by
  intro bytes base s
  refine ⟨fun hfits => ⟨_, loadProgram_of_fits hfits s, rfl, fun k v hk => ?inside, fun x hx => ?outside⟩,
    fun h => loadProgram_of_not_fits h s⟩
  case inside =>
    have hlt : k < bytes.length := (List.getElem?_eq_some_iff.mp hk).1
    have haddr : (base + BitVec.ofNat 16 k).toNat = base.toNat + k := by
      simp only [BitVec.toNat_add, BitVec.toNat_ofNat]
      omega
    rw [memRead, haddr]
    exact Memory.read_load_inside bytes s.mem base.toNat k v hk
  case outside => exact Memory.read_load_outside bytes s.mem base.toNat x.toNat hx

end Sys2Proof.Machine

/-! Decoding and encoding (30_encoding.md R81 to R98): the two round trips, and what follows of them. -/

namespace Sys2Proof

/-! What the decoder reads at each kind of grid cell. -/

theorem decode_f1 {op : Byte} {i : Instr} (h : gridCell op = .f1 i) (rest : List Byte) :
    decode (op :: rest) = .ok (i, rest) := by
  simp only [decode, h]

theorem decode_f2 {op : Byte} {mk : Byte → Instr} (h : gridCell op = .f2 mk) (d8 : Byte) (rest : List Byte) :
    decode (op :: d8 :: rest) = .ok (mk d8, rest) := by
  simp only [decode, h]

theorem decode_f3 {op : Byte} {mk : Word → Instr} (h : gridCell op = .f3 mk) (lo hi : Byte) (rest : List Byte) :
    decode (op :: lo :: hi :: rest) = .ok (mk (wordOf hi lo), rest) := by
  simp only [decode, h]

/-- The two operand bytes of a word, low byte first, are read back as the word (R84). -/
theorem decode_f3_word {op : Byte} {mk : Word → Instr} (h : gridCell op = .f3 mk) (w : Word) (rest : List Byte) :
    decode (op :: loByte w :: hiByte w :: rest) = .ok (mk w, rest) := by
  rw [decode_f3 h, wordOf_loByte_hiByte]

/-- Settles O1: each instruction stands in the grid at its own opcode, and its cell has the format of its operand. -/
theorem decodeOfEncodeGivesInstruction : Obligations.DecodeOfEncodeGivesInstruction := by
  intro i rest
  cases i with
  | lxiB w | lxiD w | lxiH w | lxiSp w | shld w | lhld w | sta w | lda w
  | jmp w | jnz w | jz w | jnc w | jc w | jpo w | jpe w | jp w | jm w
  | call w | cnz w | cz w | cnc w | cc w | cpo w | cpe w | cp w | cm w =>
    exact decode_f3_word rfl w rest
  | mviB v | mviC v | mviD v | mviE v | mviH v | mviL v | mviM v | mviA v
  | adi v | aci v | sui v | sbi v | ani v | xri v | ori v | cpi v | outPort v | inPort v =>
    exact decode_f2 rfl v rest
  | _ => exact decode_f1 rfl rest

/-- Settles O2, by the format of the opcode's grid cell: the cell and the encoder agree, and a sequence too short for
the format does not decode. -/
theorem encodeOfDecodeGivesBytes : Obligations.EncodeOfDecodeGivesBytes := by
  intro bytes rest i h
  match bytes with
  | [] => cases h
  | op :: tail =>
    have agrees := gridCell_agrees op
    cases hcell : gridCell op with
    | f1 j =>
      rw [hcell] at agrees
      cases (decode_f1 hcell tail).symm.trans h
      rw [show encode i = [op] from agrees, List.singleton_append]
    | f2 mk =>
      rw [hcell] at agrees
      match tail with
      | [] => simp [decode, hcell] at h
      | d8 :: tail =>
        cases (decode_f2 hcell d8 tail).symm.trans h
        rw [agrees d8]
        rfl
    | f3 mk =>
      rw [hcell] at agrees
      match tail with
      | [] | [_] => simp [decode, hcell] at h
      | lo :: hi :: tail =>
        cases (decode_f3 hcell lo hi tail).symm.trans h
        rw [agrees (wordOf hi lo), loByte_wordOf, hiByte_wordOf]
        rfl

/-- An encoding begins with the opcode. -/
theorem encode_eq_cons (i : Instr) : encode i = opcodeOf i :: (encode i).tail := by
  cases i <;> rfl

/-- R83's lists give the number of bytes of every encoding: reading the opcode off the encoding first drops the operand,
and what remains computes. -/
theorem encode_length (i : Instr) : (encode i).length = instrLength (opcodeOf i) := by
  cases i <;> simp only [opcodeOf, encode, List.headD_cons] <;> rfl

/-- What decodes has the opcode byte as its opcode, and its operand bytes stand before the rest. -/
theorem opcodeOf_and_operands_of_decode {op : Byte} {bytes rest : List Byte} {i : Instr}
    (h : decode (op :: bytes) = .ok (i, rest)) : opcodeOf i = op ∧ bytes = (encode i).tail ++ rest := by
  have hbytes := encodeOfDecodeGivesBytes _ _ _ h
  rw [encode_eq_cons, List.cons_append, List.cons.injEq] at hbytes
  exact ⟨hbytes.1.symm, hbytes.2⟩

/-- An opcode byte with two bytes after it decodes (R81: no instruction is longer than three bytes). -/
theorem exists_decode_eq_ok (op b1 b2 : Byte) : ∃ i rest, decode [op, b1, b2] = .ok (i, rest) := by
  cases hcell : gridCell op with
  | f1 i => exact ⟨_, _, decode_f1 hcell _⟩
  | f2 mk => exact ⟨_, _, decode_f2 hcell _ _⟩
  | f3 mk => exact ⟨_, _, decode_f3 hcell _ _ _⟩

/-- Settles O3: the bytes are the encoding of what they decode to, whose length its opcode gives. -/
theorem opcodeAloneFixesLength : Obligations.OpcodeAloneFixesLength := by
  intro op b1 b2
  obtain ⟨i, rest, h⟩ := exists_decode_eq_ok op b1 b2
  obtain ⟨rfl, hoperands⟩ := opcodeOf_and_operands_of_decode h
  refine ⟨i, ?_, encode_length i, rfl⟩
  have hlength : (encode i).tail.length = instrLength (opcodeOf i) - 1 := by rw [List.length_tail, encode_length]
  rw [h, hoperands, List.drop_left' hlength]

/-- Settles O5: what decodes has the opcode byte as its opcode, and the undefined instructions are those of R96. -/
theorem undefinedOpcodesAreTheTwelve : Obligations.UndefinedOpcodesAreTheTwelve := by
  intro op rest tail i h
  obtain ⟨rfl, -⟩ := opcodeOf_and_operands_of_decode h
  rw [Machine.wellFormed_eq, Bool.not_eq_false', List.contains_iff_mem]
  exact Iff.rfl

/-- Settles O4: the decoder evaluated on each word. -/
theorem sampleWordsDecode : Obligations.SampleWordsDecode :=
  ⟨rfl, rfl, rfl, rfl, rfl, rfl, rfl, rfl, rfl, rfl, rfl, rfl⟩

end Sys2Proof

/-! Placing one instruction at PC (log entry 8). -/

namespace Sys2Proof.Machine

/-- A table word that decodes is decoded from its bytes. -/
theorem decode_tableBytes_of_decodeTableWord {nbits w : Nat} {i : Instr} (h : decodeTableWord nbits w = some i) :
    ∃ rest, decode (tableBytes nbits w) = .ok (i, rest) := by
  unfold decodeTableWord at h
  split at h
  · next j rest hdecode => exact ⟨rest, Option.some.inj h ▸ hdecode⟩
  · cases h

/-- The three bytes stored at PC are the three bytes read there. -/
theorem bytesAtPc_storeBytes (s : State) (b0 b1 b2 : Byte) :
    bytesAtPc (storeBytes s.pc [b0, b1, b2] s) = [b0, b1, b2] := by
  have h01 : s.pc ≠ s.pc + 1 := by bv_omega
  have h02 : s.pc ≠ s.pc + 1 + 1 := by bv_omega
  have h12 : s.pc + 1 ≠ s.pc + 1 + 1 := by bv_omega
  have h2 : s.pc + 2 = s.pc + 1 + 1 := by bv_omega
  simp only [bytesAtPc, storeBytes, memWrite_pc, memRead_memWrite, h2, h01, h02, h12, if_true, if_false]

@[simp] theorem withFetchWord_pc (s : State) (nbits w : Nat) : (s.withFetchWord nbits w).pc = s.pc := rfl

theorem withFetchWord_running (s : State) (nbits w : Nat) : Running (s.withFetchWord nbits w) := ⟨rfl, rfl⟩

theorem bytesAtPc_withFetchWord (s : State) (nbits w : Nat) :
    bytesAtPc (s.withFetchWord nbits w) = tableBytes nbits w :=
  bytesAtPc_storeBytes { s with halted := false, fault := none } _ _ _

/-- Settles O59: the placed state runs, and the bytes at its PC are the table word's. -/
theorem placedInstructionIsFetched : Obligations.PlacedInstructionIsFetched := by
  intro s nbits w i h
  obtain ⟨rest, hdecode⟩ := decode_tableBytes_of_decodeTableWord h
  rw [← bytesAtPc_withFetchWord s] at hdecode
  rw [stepRunsDecodedInstruction _ i rest (withFetchWord_running s nbits w) hdecode, withFetchWord_pc]

end Sys2Proof.Machine

/-! Data transfer (41_data_transfer.md R130 to R143; 44_stack.md R206; 45_control_transfer.md R253): the encodings by
their fields, and the stores in the form the statements speak of. -/

namespace Sys2Proof.Machine

open Sys2Proof.Claims

/-! Encodings (30_encoding.md R82, R84, R86, R87). -/

/-- `01dddsss`; the code pair M,M is HLT's opcode, so the pattern has no exception (R87, R264). -/
theorem encode_mov (dst src : Operand) :
    encode (movInstr dst src) = [(0b01#2 ++ operandCode dst ++ operandCode src : Byte)] := by
  cases dst with
  | reg r =>
    cases src with
    | reg q => cases r <;> cases q <;> rfl
    | m => cases r <;> rfl
  | m =>
    cases src with
    | reg q => cases q <;> rfl
    | m => rfl

theorem encode_mvi (dst : Operand) (v : Byte) :
    encode (mviInstr dst v) = [(0b00#2 ++ operandCode dst ++ 0b110#3 : Byte), v] := by
  cases dst with
  | reg r => cases r <;> rfl
  | m => rfl

theorem encode_lxi (p : Pair) (w : Word) :
    encode (lxiInstr p w) = (0b00#2 ++ pairCode p ++ 0b0001#4 : Byte) :: wordBytes w := by
  cases p <;> rfl

theorem encode_ldax (p : PointerPair) :
    encode (ldaxInstr p) = [(0b00#2 ++ pointerPairCode p ++ 0b1010#4 : Byte)] := by
  cases p <;> rfl

theorem encode_stax (p : PointerPair) :
    encode (staxInstr p) = [(0b00#2 ++ pointerPairCode p ++ 0b0010#4 : Byte)] := by
  cases p <;> rfl

/-! Stores, cell by cell. -/

theorem storesOnly_refl (s : State) : StoresOnly s s [] := ⟨nofun, fun _ _ => rfl⟩

/-- One more store, at an address not stored to before. -/
theorem storesOnly_append_memWrite {s t : State} {cells : List (Word × Byte)} (h : StoresOnly s t cells) {x : Word}
    (hx : ∀ k ∈ cells, k.1 ≠ x) (v : Byte) : StoresOnly s (memWrite x v t) (cells ++ [(x, v)]) := by
  obtain ⟨hcells, hothers⟩ := h
  refine ⟨fun k hk => ?stored, fun y hy => ?others⟩
  case stored =>
    rw [memRead_memWrite]
    rcases List.mem_append.mp hk with hold | hnew
    · rw [if_neg (hx k hold), hcells k hold]
    · rw [List.mem_singleton.mp hnew, if_pos rfl]
  case others =>
    have hyx : y ≠ x := hy (x, v) (List.mem_append_right _ List.mem_cons_self)
    rw [memRead_memWrite, if_neg hyx, hothers y fun k hk => hy k (List.mem_append_left _ hk)]

theorem storesOnly_memWrite (x : Word) (v : Byte) (s : State) : StoresOnly s (memWrite x v s) [(x, v)] :=
  storesOnly_append_memWrite (storesOnly_refl s) nofun v

/-- Two stores at different addresses. -/
theorem storesOnly_memWrite_memWrite {x y : Word} (hxy : x ≠ y) (v w : Byte) (s : State) :
    StoresOnly s (memWrite y w (memWrite x v s)) [(x, v), (y, w)] :=
  storesOnly_append_memWrite (storesOnly_memWrite x v s) (by simpa using hxy) w

/-- A meaning answers its next state, so its stores are read off there. -/
theorem nextStores_of_nextState {i : Instr} {s t u : State} {cells : List (Word × Byte)} (hnext : nextState i s = t)
    (hframe : t = { u with mem := t.mem }) (hstores : StoresOnly s t cells) : NextStores (exec i s) s u cells :=
  ⟨t, exec_eq_next_iff.mpr hnext, hframe, hstores⟩

/-- A meaning that is one store. -/
theorem nextStores_memWrite {i : Instr} {s : State} {x : Word} {v : Byte} (h : nextState i s = memWrite x v s) :
    NextStores (exec i s) s s [(x, v)] :=
  nextStores_of_nextState h rfl (storesOnly_memWrite x v s)

/-! The obligations. -/

/-- Settles O13: the address of M is the pair HL, and each of the two meanings is one store there. -/
theorem movesToMemory : Obligations.MovesToMemory := by
  refine ⟨fun r => encode_mov .m (.reg r), encode_mvi .m, fun src s => ?mov, fun v s => ?mvi⟩
  case mov => exact nextStores_memWrite (nextState_movMem s src)
  case mvi => exact nextStores_memWrite (nextState_mvi s v .m)

/-- Settles O14: LXI writes the pair with the word, and the pair holds its two halves. -/
theorem lxiLoadsPair : Obligations.LxiLoadsPair := by
  refine ⟨encode_lxi, fun p d16 s => ?_⟩
  rw [exec_eq_next, nextState_lxi, writePair_eq_withPair]

/-- Settles O16: STA and STAX are one store; SHLD is two, at addresses that differ also where a16 + 1 wraps. -/
theorem storesWriteMemory : Obligations.StoresWriteMemory := by
  refine ⟨fun _ => rfl, fun _ => rfl, encode_stax, fun a16 s => ?sta, fun a16 s => ?shld, fun p s => ?stax⟩
  case sta => exact nextStores_memWrite (nextState_sta s a16)
  case shld =>
    have hne : a16 ≠ a16 + 1 := by bv_omega
    exact nextStores_of_nextState (nextState_shld s a16) rfl (storesOnly_memWrite_memWrite hne s.l s.h s)
  case stax => exact nextStores_memWrite (nextState_stax s p)

/-- Settles O12: MOV reads its source operand, a register or the byte at HL, and MVI takes its immediate; both write one
register. -/
theorem movesToRegister : Obligations.MovesToRegister := by
  have hmov (dst : Reg) (o : Operand) (s : State) :
      exec (movInstr (.reg dst) o) s = .next (writeReg dst (readOperand o s) s) := by
    rw [exec_eq_next, nextState_movReg]
  refine ⟨fun dst => encode_mov (.reg dst), fun dst => encode_mvi (.reg dst), fun dst src => hmov dst (.reg src),
    fun dst => hmov dst .m, fun dst v s => ?mvi⟩
  case mvi => rw [exec_eq_next, nextState_mvi, writeOperand]

/-- Settles O15, from the state each load answers. -/
theorem loadsReadMemory : Obligations.LoadsReadMemory := by
  refine ⟨fun _ => rfl, fun _ => rfl, encode_ldax, fun a16 s => ?lda, fun a16 s => ?lhld, fun p s => ?ldax⟩
  case lda => rw [exec_eq_next, nextState_lda]
  case lhld => rw [exec_eq_next, nextState_lhld]
  case ldax => rw [exec_eq_next, nextState_ldax]

/-- Settles O17, from the state each meaning answers; HL as a word is H before L. -/
theorem exchangeAndCopiesOfHl : Obligations.ExchangeAndCopiesOfHl := by
  refine ⟨rfl, rfl, rfl, fun s => ⟨?xchg, ?sphl, ?pchl⟩⟩
  case xchg => rw [exec_eq_next, nextState_xchg]
  case sphl => rw [exec_eq_next, nextState_sphl, readPair, wordOf]
  case pchl => rw [exec_eq_next, nextState_pchl, jumpTo, readPair, wordOf]

end Sys2Proof.Machine

/-! Arithmetic (42_arithmetic.md R151 to R168): the encodings by their fields, the flag groups and the shared operations
in the plain arithmetic the statements speak of. -/

namespace Sys2Proof.Machine

open Sys2Proof.Claims

/-! Encodings (30_encoding.md R86, R88). -/

theorem encode_alu (op : AluOp) (o : Operand) :
    encode (aluInstr op o) = [(0b10#2 ++ aluOpCode op ++ operandCode o : Byte)] := by
  cases o with
  | reg r => cases op <;> cases r <;> rfl
  | m => cases op <;> rfl

theorem encode_inr (o : Operand) : encode (inrInstr o) = [(0b00#2 ++ operandCode o ++ 0b100#3 : Byte)] := by
  cases o with
  | reg r => cases r <;> rfl
  | m => rfl

theorem encode_dcr (o : Operand) : encode (dcrInstr o) = [(0b00#2 ++ operandCode o ++ 0b101#3 : Byte)] := by
  cases o with
  | reg r => cases r <;> rfl
  | m => rfl

theorem encode_inx (p : Pair) : encode (inxInstr p) = [(0b00#2 ++ pairCode p ++ 0b0011#4 : Byte)] := by
  cases p <;> rfl

theorem encode_dcx (p : Pair) : encode (dcxInstr p) = [(0b00#2 ++ pairCode p ++ 0b1011#4 : Byte)] := by
  cases p <;> rfl

theorem encode_dad (p : Pair) : encode (dadInstr p) = [(0b00#2 ++ pairCode p ++ 0b1001#4 : Byte)] := by
  cases p <;> rfl

/-! What an ALU instruction answers. -/

theorem readOperand_eq_operandValue (o : Operand) (s : State) : readOperand o s = operandValue o s := by
  cases o <;> rfl

theorem exec_alu (op : AluOp) (o : Operand) (s : State) :
    exec (aluInstr op o) s = .next (aluApply op (operandValue o s) s) := by
  rw [exec_eq_next, nextState_alu, readOperand_eq_operandValue]

theorem exec_aluImm (op : AluOp) (v : Byte) (s : State) : exec (aluImmInstr op v) s = .next (aluApply op v s) := by
  rw [exec_eq_next, nextState_aluImm]

/-! The flag groups (40_alu_flags.md R110 to R119). -/

/-- Z, S and P of an integer's low byte (R110, R111, R112). -/
theorem zspFlags_eq (x : Nat) (cy ac : Bool) : zspFlags x cy ac =
    { z := zeroFlag (BitVec.ofNat 8 x), s := signFlag (BitVec.ofNat 8 x), p := parityFlag (BitVec.ofNat 8 x),
      cy := cy, ac := ac } := by
  rw [zeroFlag_eq, signFlag_eq, parityFlag_eq, BitVec.toNat_ofNat]
  rfl

theorem setZSP_ofNat (x : Nat) (f : Flags) : setZSP (BitVec.ofNat 8 x) f = zspFlags x f.cy f.ac :=
  (zspFlags_eq x f.cy f.ac).symm

theorem setZSP_eq (v : Byte) (f : Flags) : setZSP v f = zspFlags v.toNat f.cy f.ac := by
  rw [← setZSP_ofNat, BitVec.ofNat_toNat, BitVec.setWidth_eq]

theorem setArithAdd_eq (a v : Byte) (c : Bool) : setArithAdd a v c = sumFlags a v c := by
  rw [sumFlags, zspFlags_eq, ← carryAdd_sumOf]
  rfl

theorem sub8_eq_difference (a v : Byte) (c : Bool) : sub8 a v c = BitVec.ofNat 8 (difference a v c) :=
  sub8_eq a v c

theorem setArithSub_eq (a v : Byte) (c : Bool) : setArithSub a v c = differenceFlags a v c := by
  rw [differenceFlags, zspFlags_eq, ← sub8_eq_difference, ← borrow_differenceOf, ← auxSub_eq]
  rfl

/-- Two bytes differ by 0 modulo 256 only when they are equal. -/
theorem difference_eq_zero_iff (a v : Byte) : difference a v false % 256 = 0 ↔ a = v := by
  rw [BitVec.toNat_eq]
  have := a.isLt
  have := v.isLt
  simp only [difference, Bool.toNat_false]
  omega

/-! The shared operations. -/

theorem aluAdd_eq (v : Byte) (c : Bool) (s : State) : aluAdd v c s =
    { s with a := BitVec.ofNat 8 (s.a.toNat + v.toNat + c.toNat), flags := sumFlags s.a v c } := by
  rw [aluAdd, setArithAdd_eq]
  rfl

theorem aluSub_eq (v : Byte) (c : Bool) (s : State) : aluSub v c s =
    { s with a := BitVec.ofNat 8 (difference s.a v c), flags := differenceFlags s.a v c } := by
  rw [aluSub, sub8_eq_difference, setArithSub_eq]

theorem aluCmp_eq (v : Byte) (s : State) : aluCmp v s = { s with flags := differenceFlags s.a v false } := by
  rw [aluCmp, setArithSub_eq]

/-- The operand is written before the flags, and the write keeps CY and AC (R161 to R164). -/
theorem storeZSP_eq (o : Operand) (v : Byte) (s : State) : storeZSP o v s =
    { writeOperand o v s with flags := zspFlags v.toNat s.flags.cy s.flags.ac } := by
  rw [storeZSP, setZSP_eq, writeOperand_flags]

/-- INR M and DCR M are one store, at HL, and the flags (R162, R164). -/
theorem nextStores_storeZSP {i : Instr} {s : State} {v : Byte} (h : nextState i s = storeZSP .m v s) :
    NextStores (exec i s) s { s with flags := zspFlags v.toNat s.flags.cy s.flags.ac } [(s.h ++ s.l, v)] :=
  nextStores_of_nextState (h.trans (storeZSP_eq .m v s)) rfl (storesOnly_memWrite (s.h ++ s.l) v s)

/-- A pair takes an integer modulo 65,536 (R23). -/
theorem writePair_ofNat (p : Pair) (n : Nat) (s : State) : writePair p (BitVec.ofNat 16 n) s = withPair p n s := by
  have hhigh : BitVec.ofNat 8 (n % 65536 / 256) = BitVec.ofNat 8 (n / 256) := by
    apply BitVec.eq_of_toNat_eq
    simp only [BitVec.toNat_ofNat]
    omega
  have hlow : BitVec.ofNat 8 (n % 65536) = BitVec.ofNat 8 n := by
    apply BitVec.eq_of_toNat_eq
    simp only [BitVec.toNat_ofNat]
    omega
  cases p with
  | bc | de | hl =>
    simp only [writePair, withPair, hiByte_eq, loByte_eq, BitVec.toNat_ofNat, Nat.reducePow, hhigh, hlow]
  | sp => rfl

theorem readPair_eq (p : Pair) (s : State) : readPair p s = BitVec.ofNat 16 (pairValue p s) := by
  rw [← readPair_toNat, BitVec.ofNat_toNat, BitVec.setWidth_eq]

theorem pairValue_lt (p : Pair) (s : State) : pairValue p s < 65536 :=
  readPair_toNat p s ▸ (readPair p s).isLt

/-- Bit 16 of a sum of two words is "65,536 or more" (R167). -/
theorem testBit_16_of_add {m n : Nat} (hm : m < 65536) (hn : n < 65536) :
    (m + n).testBit 16 = decide (65536 ≤ m + n) := by
  rw [Nat.testBit_eq_decide_div_mod_eq]
  congr 1
  simp only [eq_iff_iff]
  omega

theorem addToHl_eq (p : Pair) (s : State) : addToHl p s =
    { withPair .hl (pairValue .hl s + pairValue p s) s with
      flags := { s.flags with cy := decide (65536 ≤ pairValue .hl s + pairValue p s) } } := by
  simp only [addToHl, readPair_toNat, writePair_ofNat, testBit_16_of_add (pairValue_lt .hl s) (pairValue_lt p s)]
  rfl

/-! The decimal adjustment (R168). -/

/-- DAA corrects the low digit when it is above 9 or AC is set (R168). -/
theorem daaLow_eq (a : Byte) (f : Flags) : daaLow a f = decide (a.toNat % 16 > 9 ∨ f.ac = true) := by
  rw [daaLow, Bool.decide_or, Bool.decide_eq_true]

/-- DAA corrects the high digit when it is above 9, CY is set, or the low digit's carry would take it above 9 (R168). -/
theorem daaHigh_eq (a : Byte) (f : Flags) : daaHigh a f =
    decide (a.toNat / 16 > 9 ∨ f.cy = true ∨ (a.toNat / 16 ≥ 9 ∧ a.toNat % 16 > 9)) := by
  rw [daaHigh, Bool.decide_or, Bool.decide_or, Bool.decide_and, Bool.decide_eq_true, Bool.or_assoc]

theorem daaFlags_eq (a : Byte) (f : Flags) : daaFlags a f = zspFlags (a.toNat + daaCorrection a f)
    (f.cy || daaHigh a f) (decide (a.toNat % 16 + daaCorrection a f % 16 > 0xF)) := by
  rw [daaFlags, daaResult, setZSP_ofNat]

/-! The obligations. -/

/-- Settles O18: each of the four meanings is the shared addition, with no carry in or the old CY. -/
theorem additionsWriteSumAndFlags : Obligations.AdditionsWriteSumAndFlags := by
  refine ⟨encode_alu .add, encode_alu .adc, fun _ => rfl, fun _ => rfl,
    fun o s => ?add, fun o s => ?adc, fun v s => ?adi, fun v s => ?aci⟩
  case add => rw [exec_alu, aluApply, aluAdd_eq, Bool.toNat_false, Nat.add_zero]
  case adc => rw [exec_alu, aluApply, aluAdd_eq]
  case adi => rw [exec_aluImm, aluApply, aluAdd_eq, Bool.toNat_false, Nat.add_zero]
  case aci => rw [exec_aluImm, aluApply, aluAdd_eq]

/-- Settles O19: each of the four meanings is the shared subtraction, with no borrow in or the old CY. -/
theorem subtractionsWriteDifferenceAndFlags : Obligations.SubtractionsWriteDifferenceAndFlags := by
  refine ⟨encode_alu .sub, encode_alu .sbb, fun _ => rfl, fun _ => rfl,
    fun o s => ?sub, fun o s => ?sbb, fun v s => ?sui, fun v s => ?sbi⟩
  case sub => rw [exec_alu, aluApply, aluSub_eq]
  case sbb => rw [exec_alu, aluApply, aluSub_eq]
  case sui => rw [exec_aluImm, aluApply, aluSub_eq]
  case sbi => rw [exec_aluImm, aluApply, aluSub_eq]

/-- Settles O20: both meanings write the flags of SUB; their Z and CY compare A with the operand. -/
theorem comparesWriteFlagsOnly : Obligations.ComparesWriteFlagsOnly := by
  refine ⟨encode_alu .cmp, fun _ => rfl, fun o s => ?cmp, fun v s => ?cpi, fun a v => ⟨?zero, rfl⟩⟩
  case cmp => rw [exec_alu, aluApply, aluCmp_eq]
  case cpi => rw [exec_aluImm, aluApply, aluCmp_eq]
  case zero => exact decide_eq_decide.mpr (difference_eq_zero_iff a v)

/-- Settles O21: INR and DCR write their operand, then Z, S and P; the operand M is one store at HL. -/
theorem incrementsAndDecrementsKeepCarries : Obligations.IncrementsAndDecrementsKeepCarries := by
  refine ⟨encode_inr, encode_dcr, fun r s => ?inr, fun r s => ?dcr, fun s => ?inrM, fun s => ?dcrM⟩
  case inr => rw [exec_eq_next, nextState_inr, storeZSP_eq, readOperand, writeOperand]
  case dcr => rw [exec_eq_next, nextState_dcr, storeZSP_eq, readOperand, writeOperand]
  case inrM => exact nextStores_storeZSP (nextState_inr s .m)
  case dcrM => exact nextStores_storeZSP (nextState_dcr s .m)

/-- Settles O22: a pair is written with an integer modulo 65,536, where subtracting one is adding 65,535. -/
theorem pairIncrementsWrapWithoutFlags : Obligations.PairIncrementsWrapWithoutFlags := by
  refine ⟨encode_inx, encode_dcx, fun p s => ⟨?inx, ?dcx⟩⟩
  case inx =>
    have hinc : readPair p s + 1 = BitVec.ofNat 16 (pairValue p s + 1) := by
      rw [readPair_eq, BitVec.ofNat_add]
      rfl
    rw [exec_eq_next, nextState_inx, hinc, writePair_ofNat]
  case dcx =>
    have hdec : readPair p s - 1 = BitVec.ofNat 16 (pairValue p s + 65535) := by
      rw [readPair_eq, BitVec.ofNat_add, BitVec.sub_eq_add_neg]
      rfl
    rw [exec_eq_next, nextState_dcx, hdec, writePair_ofNat]

/-- Settles O23, from the addition to HL in integers. -/
theorem dadAddsPairToHl : Obligations.DadAddsPairToHl := by
  refine ⟨encode_dad, fun p s => ?_⟩
  rw [exec_eq_next, nextState_dad, addToHl_eq]

/-- Settles O24: the two conditions of R168 are the model's, and so are the correction and the flags that follow. -/
theorem daaAdjustsDecimal : Obligations.DaaAdjustsDecimal := by
  refine ⟨rfl, fun s => ?_⟩
  rw [exec_eq_next, nextState_daa, daaFlags_eq, daaResult, daaCorrection, daaLow_eq, daaHigh_eq]

end Sys2Proof.Machine

/-! Logical, rotate and carry instructions (43_logical.md R181 to R193): the flags of a logical result, and the rotates as
arithmetic on A. -/

namespace Sys2Proof.Machine

open Sys2Proof.Claims

/-- The flags of a logical result: Z, S and P, with CY and AC cleared (R117). -/
theorem setLogic_eq (v : Byte) : setLogic v = zspFlags v.toNat false false := by
  rw [zspFlags_eq, BitVec.ofNat_toNat, BitVec.setWidth_eq]
  rfl

theorem aluLogic_eq (w : Byte) (s : State) : aluLogic w s =
    { s with a := w, flags := zspFlags w.toNat false false } := by
  rw [aluLogic, setLogic_eq]

/-! The bits a rotate evicts, as flags and as integers. -/

theorem getLsbD_seven_eq (v : Byte) : v.getLsbD 7 = decide (128 ≤ v.toNat) := signFlag_eq v

theorem getLsbD_zero_eq (v : Byte) : v.getLsbD 0 = decide (v.toNat % 2 = 1) := Nat.testBit_zero v.toNat

theorem toNat_getLsbD_seven (v : Byte) : (v.getLsbD 7).toNat = v.toNat / 128 := by
  have := v.isLt
  rw [getLsbD_seven_eq, Bool.toNat, Bool.cond_decide]
  split <;> omega

theorem toNat_getLsbD_zero (v : Byte) : (v.getLsbD 0).toNat = v.toNat % 2 := by
  rw [getLsbD_zero_eq, Bool.toNat, Bool.cond_decide]
  split <;> omega

/-! The accumulator shifted by one place, with a given bit in the place left empty. -/

/-- Left: the low seven bits move up and `b` comes in at bit 0 (R187, R189). -/
theorem shiftedLeft_eq (v : Byte) (b : Bool) :
    v.extractLsb' 0 7 ++ BitVec.ofBool b = BitVec.ofNat 8 (2 * v.toNat + b.toNat) := by
  apply BitVec.eq_of_toNat_eq
  have := Bool.toNat_lt b
  rw [BitVec.toNat_append, ← Nat.shiftLeft_add_eq_or_of_lt (BitVec.isLt _), Nat.shiftLeft_eq]
  simp only [BitVec.extractLsb'_toNat, BitVec.toNat_ofBool, BitVec.toNat_ofNat, Nat.shiftRight_zero]
  omega

/-- Right: the high seven bits move down and `b` comes in at bit 7 (R188, R190). -/
theorem shiftedRight_eq (v : Byte) (b : Bool) :
    BitVec.ofBool b ++ v.extractLsb' 1 7 = BitVec.ofNat 8 (v.toNat / 2 + 128 * b.toNat) := by
  apply BitVec.eq_of_toNat_eq
  have := Bool.toNat_lt b
  have := v.isLt
  rw [BitVec.toNat_append, ← Nat.shiftLeft_add_eq_or_of_lt (BitVec.isLt _), Nat.shiftLeft_eq]
  simp only [BitVec.extractLsb'_toNat, BitVec.toNat_ofBool, BitVec.toNat_ofNat, Nat.shiftRight_eq_div_pow]
  omega

/-- The complement of a byte as an integer (R191). -/
theorem not_eq_ofNat (v : Byte) : ~~~v = BitVec.ofNat 8 (255 - v.toNat) := by
  apply BitVec.eq_of_toNat_eq
  rw [BitVec.toNat_not, BitVec.toNat_ofNat]
  omega

/-! The obligations. -/

/-- Settles O25: each of the six meanings is the shared logical write of A, with its operation's result. -/
theorem logicalsClearCarries : Obligations.LogicalsClearCarries := by
  refine ⟨encode_alu .ana, encode_alu .xra, encode_alu .ora, fun _ => rfl, fun _ => rfl, fun _ => rfl,
    fun o v s => ⟨?ana, ?xra, ?ora, ?ani, ?xri, ?ori⟩⟩
  case ana => rw [exec_alu, aluApply, aluLogic_eq]
  case xra => rw [exec_alu, aluApply, aluLogic_eq]
  case ora => rw [exec_alu, aluApply, aluLogic_eq]
  case ani => rw [exec_aluImm, aluApply, aluLogic_eq]
  case xri => rw [exec_aluImm, aluApply, aluLogic_eq]
  case ori => rw [exec_aluImm, aluApply, aluLogic_eq]

/-- Settles O26: RLC and RRC bring the evicted bit in at the other end, RAL and RAR bring in the old CY. -/
theorem rotatesMoveOneBit : Obligations.RotatesMoveOneBit := by
  refine ⟨rfl, rfl, rfl, rfl, fun s => ⟨?rlc, ?rrc, ?ral, ?rar⟩⟩
  case rlc => rw [exec_eq_next, nextState_rlc, rotateTo, shiftedLeft_eq, toNat_getLsbD_seven, getLsbD_seven_eq]
  case rrc => rw [exec_eq_next, nextState_rrc, rotateTo, shiftedRight_eq, toNat_getLsbD_zero, getLsbD_zero_eq]
  case ral => rw [exec_eq_next, nextState_ral, rotateTo, shiftedLeft_eq, getLsbD_seven_eq]
  case rar => rw [exec_eq_next, nextState_rar, rotateTo, shiftedRight_eq, getLsbD_zero_eq]

/-- Settles O27: the complement of A is its difference from 255, and CMC's is "CY was 0". -/
theorem complementAndCarryInstructions : Obligations.ComplementAndCarryInstructions := by
  refine ⟨rfl, rfl, rfl, fun s => ⟨?cma, ?cmc, ?stc⟩⟩
  case cma => rw [exec_eq_next, nextState_cma, not_eq_ofNat]
  case cmc => rw [exec_eq_next, nextState_cmc, Bool.decide_eq_false]
  case stc => rw [exec_eq_next, nextState_stc]

end Sys2Proof.Machine

/-! Stack (44_stack.md R201 to R205): the packed flags byte, and the pushes and pops in the form the statements speak
of. -/

namespace Sys2Proof.Machine

open Sys2Proof.Claims

/-! Encodings (30_encoding.md R89). -/

theorem encode_push (p : StackPair) : encode (pushInstr p) = [(0b11#2 ++ stackPairCode p ++ 0b0101#4 : Byte)] := by
  cases p <;> rfl

theorem encode_pop (p : StackPair) : encode (popInstr p) = [(0b11#2 ++ stackPairCode p ++ 0b0001#4 : Byte)] := by
  cases p <;> rfl

/-! The packed flags byte (10_state.md R31). -/

theorem flagsByte_eq (f : Flags) : flagsByte f = BitVec.ofNat 8 (flagsNumber f) := by
  obtain ⟨z, s, p, cy, ac⟩ := f
  cases z <;> cases s <;> cases p <;> cases cy <;> cases ac <;> rfl

/-- The five flag bits come back as they were loaded; bits 5 and 3 are cleared and bit 1 is set (D11). -/
theorem flagsByte_flagsOfByte (v : Byte) : flagsByte (flagsOfByte v) = (v &&& 0xD5#8) ||| 0x02#8 := by
  apply BitVec.eq_of_getLsbD_eq
  intro k hk
  simp only [flagsByte, flagsOfByte, BitVec.getLsbD_append, BitVec.getLsbD_ofBool, BitVec.getLsbD_or,
    BitVec.getLsbD_and]
  interval_cases k <;> simp

/-! A push (20_memory.md R58). -/

theorem storesOnly_push16 (hi lo : Byte) (s : State) :
    StoresOnly s (push16 (wordOf hi lo) s) (pushCells hi lo s) := by
  obtain ⟨-, hstores⟩ := pushStoresHighThenLow (wordOf hi lo) s
  rwa [← hiByte, ← loByte, hiByte_wordOf, loByte_wordOf] at hstores

/-- A meaning that is one push. -/
theorem nextStores_push16 {i : Instr} {s : State} {hi lo : Byte} (h : nextState i s = push16 (wordOf hi lo) s) :
    NextStores (exec i s) s { s with sp := s.sp - 2 } (pushCells hi lo s) := by
  obtain ⟨hframe, -⟩ := pushStoresHighThenLow (wordOf hi lo) s
  exact nextStores_of_nextState h hframe (storesOnly_push16 hi lo s)

/-! A pop (R59). -/

@[simp] theorem hiByte_stackTop (s : State) : hiByte (stackTop s) = memRead (s.sp + 1) s := hiByte_wordOf _ _

@[simp] theorem loByte_stackTop (s : State) : loByte (stackTop s) = memRead s.sp s := loByte_wordOf _ _

theorem exec_pop (p : StackPair) (s : State) :
    exec (popInstr p) s = .next (writeStackPair p (stackTop s) { s with sp := s.sp + 2 }) := by
  rw [exec_eq_next, nextState_pop, pop16_eq]

/-! The obligations. -/

/-- Settles O28: PUSH is one push, of the two registers of the pair or of A and the flags byte. -/
theorem pushInstructionsStorePair : Obligations.PushInstructionsStorePair := by
  refine ⟨encode_push, fun s => ⟨?bc, ?de, ?hl, ?psw⟩⟩
  case bc => exact nextStores_push16 (nextState_push s .bc)
  case de => exact nextStores_push16 (nextState_push s .de)
  case hl => exact nextStores_push16 (nextState_push s .hl)
  case psw =>
    rw [← flagsByte_eq]
    exact nextStores_push16 (nextState_push s .psw)

/-- Settles O29: POP writes the pair with the word at the top of the stack, whose halves are the two bytes read. -/
theorem popInstructionsLoadPair : Obligations.PopInstructionsLoadPair := by
  refine ⟨encode_pop, fun s => ⟨?bc, ?de, ?hl⟩⟩
  case bc => rw [exec_pop, writeStackPair, writePair, hiByte_stackTop, loByte_stackTop]
  case de => rw [exec_pop, writeStackPair, writePair, hiByte_stackTop, loByte_stackTop]
  case hl => rw [exec_pop, writeStackPair, writePair, hiByte_stackTop, loByte_stackTop]

/-- Settles O30: the byte at SP is unpacked into the flags; unpacking undoes packing, and packing again restores all but
the three fixed bits. -/
theorem popPswLoadsFlags : Obligations.PopPswLoadsFlags := by
  refine ⟨encode_pop .psw, fun s => ?pop, fun f => ?unpack, flagsByte_flagsOfByte⟩
  case pop => rw [exec_pop, writeStackPair, writePsw, hiByte_stackTop, loByte_stackTop, flagsOfByte]
  case unpack => rw [← flagsByte_eq, flagsOfByte_flagsByte]

/-- Settles O31: the meaning takes both bytes from the state before its two stores, which are at addresses that differ
also where SP + 1 wraps. -/
theorem xthlExchangesStackTop : Obligations.XthlExchangesStackTop := by
  refine ⟨rfl, fun s => ?_⟩
  have hne : s.sp ≠ s.sp + 1 := by bv_omega
  exact nextStores_of_nextState (nextState_xthl s) rfl (storesOnly_memWrite_memWrite hne s.l s.h s)

end Sys2Proof.Machine

/-! Control transfer (45_control_transfer.md R219 to R248, R252): the encodings by their fields, the conditions as the
statements write them, and the shared operations of a call and a return. -/

namespace Sys2Proof.Machine

open Sys2Proof.Claims

/-! Encodings (30_encoding.md R89). -/

theorem encode_jumpCond (cond : Cond) (w : Word) :
    encode (jumpCondInstr cond w) = (0b11#2 ++ condCode cond ++ 0b010#3 : Byte) :: wordBytes w := by
  cases cond <;> rfl

theorem encode_callCond (cond : Cond) (w : Word) :
    encode (callCondInstr cond w) = (0b11#2 ++ condCode cond ++ 0b100#3 : Byte) :: wordBytes w := by
  cases cond <;> rfl

theorem encode_returnCond (cond : Cond) :
    encode (returnCondInstr cond) = [(0b11#2 ++ condCode cond ++ 0b000#3 : Byte)] := by
  cases cond <;> rfl

theorem encode_rst (n : BitVec 3) : encode (rstInstr n) = [(0b11#2 ++ n ++ 0b111#3 : Byte)] := by
  revert n
  decide

/-! Conditions (R85, R216). -/

/-- Four conditions ask for a flag that is 1, the other four for the same flag being 0. -/
theorem condHolds_eq_condTrue (cond : Cond) (f : Flags) : condHolds cond f = condTrue cond f := by
  cases cond with
  | z | c | pe | m => exact Bool.decide_eq_true.symm
  | nz | nc | po | p => exact Bool.decide_eq_false.symm

theorem onCond_eq (cond : Cond) (f : State → State) (s : State) :
    onCond cond f s = if condTrue cond s.flags then f s else s := by
  rw [onCond, condHolds_eq_condTrue]

/-! Calls, returns and the restart target. -/

/-- A meaning that is one call pushes PC, which is past the instruction's bytes (R26), and goes to its target. -/
theorem nextStores_callTo {i : Instr} {s : State} {target : Word} (h : nextState i s = callTo target s) :
    NextStores (exec i s) s { s with sp := s.sp - 2, pc := target } (returnCells s) := by
  obtain ⟨hframe, hstores⟩ := pushStoresHighThenLow s.pc s
  refine nextStores_of_nextState h ?_ hstores
  rw [callTo, hframe]
  rfl

/-- PC takes the word POP would take (R239, R59). -/
theorem returnFrom_eq (s : State) : returnFrom s = { s with sp := s.sp + 2, pc := stackTop s } := by
  rw [returnFrom, pop16_eq]
  rfl

theorem restartTarget_eq (n : BitVec 3) : restartTarget n = BitVec.ofNat 16 (8 * n.toNat) := by
  have happend : (n ++ 0#3).toNat = 8 * n.toNat := by
    rw [BitVec.toNat_append, Nat.shiftLeft_eq, Nat.mul_comm]
    exact Nat.or_zero _
  rw [restartTarget, ← BitVec.ofNat_toNat, happend]

/-! The obligations. -/

/-- Settles O32: a jump writes PC with its operand, and a condition that does not hold leaves the state. -/
theorem jumpsWritePcWhenTaken : Obligations.JumpsWritePcWhenTaken := by
  refine ⟨fun _ => rfl, encode_jumpCond, fun a16 s => ?jmp, fun cond a16 s => ?jumpCond⟩
  case jmp => rw [exec_eq_next, nextState_jmp, jumpTo]
  case jumpCond => rw [exec_eq_next, nextState_jumpCond, onCond_eq, jumpTo]

/-- Settles O33: CALL and a conditional call that is taken are one call; one that is not taken leaves the state. -/
theorem callsPushReturnAddress : Obligations.CallsPushReturnAddress := by
  refine ⟨fun _ => rfl, encode_callCond, fun a16 s => ?call, fun cond a16 s htrue => ?taken,
    fun cond a16 s hfalse => ?notTaken⟩
  case call => exact nextStores_callTo (nextState_call s a16)
  case taken =>
    apply nextStores_callTo
    rw [nextState_callCond, onCond_taken _ (condHolds_eq_condTrue cond s.flags ▸ htrue)]
  case notTaken =>
    rw [exec_eq_next, nextState_callCond, onCond_not_taken _ (condHolds_eq_condTrue cond s.flags ▸ hfalse)]

/-- Settles O34: a return pops PC, and a condition that does not hold leaves the state. -/
theorem returnsPopPc : Obligations.ReturnsPopPc := by
  refine ⟨rfl, encode_returnCond, fun s => ?ret, fun cond s => ?returnCond⟩
  case ret => rw [exec_eq_next, nextState_ret, returnFrom_eq]
  case returnCond => rw [exec_eq_next, nextState_returnCond, onCond_eq, returnFrom_eq]

/-- Settles O35: RST n is one call, and the bits 00nnn000 of its target are the number 8 * n. -/
theorem restartGoesToEightTimesN : Obligations.RestartGoesToEightTimesN := by
  refine ⟨encode_rst, fun n s => ?_⟩
  rw [← restartTarget_eq]
  exact nextStores_callTo (nextState_rst s n)

end Sys2Proof.Machine

/-! Input/output and system (46_io_system.md R260 to R268), and the invariant of every step (60_exceptions.md R271,
R277). -/

namespace Sys2Proof.Machine

open Sys2Proof.Claims

/-! The canonical form of memory (log entry 5). -/

/-- The flags that INR and DCR set are no memory. -/
theorem storeZSP_wf (o : Operand) (v : Byte) (s : State) (h : Memory.wf s.mem = true) :
    Memory.wf (storeZSP o v s).mem = true :=
  writeOperand_wf o v s h

/-- A call stores what its push stores. -/
theorem callTo_wf (x : Word) (s : State) (h : Memory.wf s.mem = true) : Memory.wf (callTo x s).mem = true :=
  push16_wf s.pc s h

/-- A conditional transfer keeps the canonical form when the transfer does. -/
theorem onCond_wf (cond : Cond) {f : State → State} {s : State} (hf : Memory.wf (f s).mem = true)
    (h : Memory.wf s.mem = true) : Memory.wf (onCond cond f s).mem = true := by
  unfold onCond
  split
  · exact hf
  · exact h

/-- Every instruction keeps the canonical form: the ones that store do so by `memWrite`, `writeOperand` or `push16`, the
others leave memory alone. -/
theorem nextState_wf (i : Instr) {s : State} (h : Memory.wf s.mem = true) : Memory.wf (nextState i s).mem = true := by
  induction i using instr_families with
  | movMem r => simpa using memWrite_wf (readPair .hl s) (readReg r s) s h
  | stax p => simpa using memWrite_wf (pointerAddr p s) s.a s h
  | sta a16 => exact memWrite_wf a16 s.a s h
  | shld a16 | xthl => exact memWrite_wf _ _ _ (memWrite_wf _ _ _ h)
  | mvi v o => simpa using writeOperand_wf o v s h
  | inr o | dcr o => simpa using storeZSP_wf o _ s h
  | push p => simpa using push16_wf (readStackPair p s) s h
  | call a16 => exact callTo_wf a16 s h
  | rst n => simpa using callTo_wf (restartTarget n) s h
  | callCond a16 cond => simpa using onCond_wf cond (callTo_wf a16 s h) h
  | jumpCond a16 cond => simpa using onCond_wf cond (f := jumpTo a16) h h
  | returnCond cond => simpa using onCond_wf cond (f := returnFrom) h h
  | undefined i hill => rwa [nextState_undefined s hill]
  | _ => simpa using h

@[simp] theorem fetchInstr_mem (s : State) : (fetchInstr s).2.mem = s.mem := by rw [fetchInstr_state]

/-! The invariant after each kind of step (R45). -/

/-- With neither latch set the invariant is the canonical form alone. -/
theorem inv_of_running {t : State} (hrun : Running t) (hwf : Memory.wf t.mem = true) : Inv t where
  mem_wf := hwf
  halted_after_hlt hh := by simp [hrun.2] at hh
  fault_at_opcode _ hf := by simp [hrun.1] at hf
  one_latch hboth := by simp [hrun.2] at hboth

/-- FAULT set at an undefined opcode, with its record (R271). -/
theorem inv_of_undefined {s : State} (hrun : Running s) (hwf : Memory.wf s.mem = true)
    (hop : memRead s.pc s ∈ undefinedOpcodes) :
    Inv { s with fault := some (.unimplementedOpcode (memRead s.pc s) s.pc) } where
  mem_wf := hwf
  halted_after_hlt hh := by simp [hrun.2] at hh
  fault_at_opcode _ hf := ⟨hop, (Option.some.inj hf).symm⟩
  one_latch hboth := by simp [hrun.2] at hboth

/-- HALTED set just after an HLT opcode (R264). -/
theorem inv_of_hlt {s : State} (hrun : Running s) (hwf : Memory.wf s.mem = true) (hop : memRead s.pc s = 0x76#8) :
    Inv { s with pc := s.pc + 1, halted := true } where
  mem_wf := hwf
  halted_after_hlt _ := by
    rw [show s.pc + 1 - 1 = s.pc by bv_omega]
    exact hop
  fault_at_opcode _ hf := by simp [hrun.1] at hf
  one_latch hboth := by simp [hrun.1] at hboth

/-- HLT's step: PC past the opcode, HALTED set (R264). -/
theorem step_hlt {s : State} (hrun : Running s) (hop : memRead s.pc s = 0x76#8) :
    step s = .next { s with pc := s.pc + 1, halted := true } := by
  rw [step_running hrun, fetchInstr_state, (fetchInstr_eq_hlt_iff s).mpr hop]
  rfl

/-- A defined instruction but HLT sets neither latch (R36, R37). -/
theorem running_nextState {i : Instr} {s : State} (hrun : Running s) (hdef : i.wellFormed = true) (hhlt : i ≠ .hlt) :
    Running (nextState i s) := by
  obtain ⟨hfault, hhalted⟩ := hrun
  have frame := nextState_specialFrame i s
  exact ⟨(frame.fault hdef).trans hfault, (frame.halted hhlt).trans hhalted⟩

/-- Settles O46: an ended core stays as it is; a running core faults at an undefined opcode, halts at HLT, and runs on
after every other instruction. -/
theorem everyStepKeepsInvariant : Obligations.EveryStepKeepsInvariant := by
  intro s t hinv hstep
  by_cases hrun : Running s
  case neg =>
    rw [step_ended hrun] at hstep
    exact Host.Outcome.next.inj hstep ▸ hinv
  by_cases hop : memRead s.pc s ∈ undefinedOpcodes
  · rw [step_undefined hrun hop] at hstep
    exact Host.Outcome.next.inj hstep ▸ inv_of_undefined hrun hinv.mem_wf hop
  by_cases hhlt : memRead s.pc s = 0x76#8
  · rw [step_hlt hrun hhlt] at hstep
    exact Host.Outcome.next.inj hstep ▸ inv_of_hlt hrun hinv.mem_wf hhlt
  · rw [step_running hrun, exec_eq_next_iff] at hstep
    have hfetched : Running (fetchInstr s).2 := by simpa [Running] using hrun
    refine hstep ▸ inv_of_running (running_nextState hfetched ?_ ?_) (nextState_wf _ ?_)
    · exact (wellFormed_fetchInstr_iff s).mpr hop
    · exact mt (fetchInstr_eq_hlt_iff s).mp hhlt
    · simpa using hinv.mem_wf

/-! Input/output and system. -/

/-- Settles O36: IN's byte is `inputByte` and the handler moves on by `nextHandler`; the four forms of a handler are the
cases. -/
theorem inStoresEnvironmentAnswer : Obligations.InStoresEnvironmentAnswer := by
  refine ⟨fun _ => rfl, fun port s => ⟨inputByte port s, nextHandler s.inHandler, ?exec, fun h => ?unset,
    fun answers h => ?fixed, fun answers moments h => ?varying, fun h => ?usedUp⟩⟩
  case exec => rw [exec_eq_next, nextState_inPort, ioRead]
  case unset => exact ⟨inputByte_unset port h, by rw [h, nextHandler_unset]⟩
  case fixed => exact ⟨inputByte_fixed port h, by rw [h, nextHandler_fixed]⟩
  case varying => exact ⟨inputByte_varying port h, by rw [h, nextHandler_varying, List.tail_cons]⟩
  case usedUp => rw [h, nextHandler_varying, List.tail_nil]

/-- Settles O37: OUT appends its pair to the model's record. -/
theorem outPresentsAccumulator : Obligations.OutPresentsAccumulator := by
  refine ⟨fun _ => rfl, fun port s => ?_⟩
  rw [exec_eq_next, nextState_outPort, ioWrite]

/-- Settles O38, instruction by instruction. -/
theorem interruptEnableAndNop : Obligations.InterruptEnableAndNop := by
  refine ⟨rfl, rfl, rfl, fun s => ⟨?ei, ?di, ?nop⟩⟩
  case ei => rw [exec_eq_next, nextState_ei]
  case di => rw [exec_eq_next, nextState_di]
  case nop => rw [exec_eq_next, nextState_nop]

/-- Settles O39: the latch HLT sets is read off the state where no fault is. -/
theorem hltSetsHalted : Obligations.HltSetsHalted := by
  refine ⟨rfl, fun s => ⟨?exec, fun hfault => ?result⟩⟩
  case exec => rw [exec_eq_next, nextState_hlt]
  case result => simp [stepResult, hfault]

end Sys2Proof.Machine

/-! Exceptions (60_exceptions.md R271). -/

namespace Sys2Proof.Machine

/-- Settles O40: the twelve undefined opcodes have one meaning, the fault at the byte before PC. -/
theorem undefinedOpcodeRaises : Obligations.UndefinedOpcodeRaises := by
  intro i s hill
  rw [exec_eq_next, nextState_undefined s hill, raiseUnimplemented, raiseFault]

/-- Settles O41: at an undefined opcode the step is the fault alone, and a defined instruction keeps FAULT clear. -/
theorem undefinedOpcodeStepIsPrecise : Obligations.UndefinedOpcodeStepIsPrecise := by
  refine ⟨fun s hrun hop => step_undefined hrun hop,
    fun s hrun hop => ⟨nextState (fetchInstr s).1 (fetchInstr s).2, ?step, ?clear⟩⟩
  case step => rw [step_running hrun, exec_eq_next]
  case clear =>
    have hkeep := (nextState_specialFrame (fetchInstr s).1 (fetchInstr s).2).fault
      ((wellFormed_fetchInstr_iff s).mpr hop)
    rw [hkeep, fetchInstr_fault, hrun.1]

end Sys2Proof.Machine

/-! Totality of the step, and non-interference of the I/O environment (70_reset_and_hazards.md R305, R306). -/

namespace Sys2Proof.Machine

open Sys2Proof.Claims

/-- Settles O44: an ended core answers its own state, and every meaning answers a next state. -/
theorem everyStepAnswersNext : Obligations.EveryStepAnswersNext := by
  intro s
  by_cases hrun : Running s
  · exact ⟨nextState (fetchInstr s).1 (fetchInstr s).2, by rw [step_running hrun, exec_eq_next]⟩
  · exact ⟨s, step_ended hrun⟩

section
variable (handler : InHandler) (reads : Nat) (ports : List Byte) (outputs : List (Byte × Byte)) (s : State)

/-! What the operations read in another environment. -/

@[simp] theorem withEnv_a : (withEnv handler reads ports outputs s).a = s.a := rfl
@[simp] theorem withEnv_h : (withEnv handler reads ports outputs s).h = s.h := rfl
@[simp] theorem withEnv_l : (withEnv handler reads ports outputs s).l = s.l := rfl
@[simp] theorem withEnv_pc : (withEnv handler reads ports outputs s).pc = s.pc := rfl
@[simp] theorem withEnv_flags : (withEnv handler reads ports outputs s).flags = s.flags := rfl

@[simp] theorem memRead_withEnv (x : Word) : memRead x (withEnv handler reads ports outputs s) = memRead x s := rfl

@[simp] theorem readReg_withEnv (r : Reg) : readReg r (withEnv handler reads ports outputs s) = readReg r s := by
  cases r <;> rfl

@[simp] theorem readPair_withEnv (p : Pair) : readPair p (withEnv handler reads ports outputs s) = readPair p s := by
  cases p <;> rfl

@[simp] theorem pointerAddr_withEnv (p : PointerPair) :
    pointerAddr p (withEnv handler reads ports outputs s) = pointerAddr p s := by
  cases p <;> rfl

@[simp] theorem readStackPair_withEnv (p : StackPair) :
    readStackPair p (withEnv handler reads ports outputs s) = readStackPair p s := by
  cases p <;> rfl

@[simp] theorem readOperand_withEnv (o : Operand) :
    readOperand o (withEnv handler reads ports outputs s) = readOperand o s := by
  cases o with
  | reg r => exact readReg_withEnv handler reads ports outputs s r
  | m => rfl

/-! What the operations write in another environment. -/

@[simp] theorem memWrite_withEnv (x : Word) (v : Byte) :
    memWrite x v (withEnv handler reads ports outputs s) = withEnv handler reads ports outputs (memWrite x v s) := rfl

@[simp] theorem writeReg_withEnv (r : Reg) (v : Byte) :
    writeReg r v (withEnv handler reads ports outputs s) = withEnv handler reads ports outputs (writeReg r v s) := by
  cases r <;> rfl

@[simp] theorem writePair_withEnv (p : Pair) (v : Word) :
    writePair p v (withEnv handler reads ports outputs s) = withEnv handler reads ports outputs (writePair p v s) := by
  cases p <;> rfl

@[simp] theorem writeStackPair_withEnv (p : StackPair) (v : Word) :
    writeStackPair p v (withEnv handler reads ports outputs s) =
      withEnv handler reads ports outputs (writeStackPair p v s) := by
  cases p <;> rfl

@[simp] theorem writeOperand_withEnv (o : Operand) (v : Byte) :
    writeOperand o v (withEnv handler reads ports outputs s) =
      withEnv handler reads ports outputs (writeOperand o v s) := by
  cases o with
  | reg r => exact writeReg_withEnv handler reads ports outputs s r v
  | m => rfl

@[simp] theorem storeZSP_withEnv (o : Operand) (v : Byte) :
    storeZSP o v (withEnv handler reads ports outputs s) = withEnv handler reads ports outputs (storeZSP o v s) := by
  simp only [storeZSP, writeOperand_withEnv]
  rfl

@[simp] theorem addToHl_withEnv (p : Pair) :
    addToHl p (withEnv handler reads ports outputs s) = withEnv handler reads ports outputs (addToHl p s) := by
  simp only [addToHl, readPair_withEnv]
  rfl

@[simp] theorem rotateTo_withEnv (w : Byte) (evicted : Bool) :
    rotateTo w evicted (withEnv handler reads ports outputs s) =
      withEnv handler reads ports outputs (rotateTo w evicted s) := rfl

@[simp] theorem aluApply_withEnv (op : AluOp) (v : Byte) :
    aluApply op v (withEnv handler reads ports outputs s) = withEnv handler reads ports outputs (aluApply op v s) := by
  cases op <;> rfl

@[simp] theorem push16_withEnv (v : Word) :
    push16 v (withEnv handler reads ports outputs s) = withEnv handler reads ports outputs (push16 v s) := rfl

@[simp] theorem pop16_withEnv : pop16 (withEnv handler reads ports outputs s) =
    ((pop16 s).1, withEnv handler reads ports outputs (pop16 s).2) := rfl

@[simp] theorem jumpTo_withEnv (x : Word) :
    jumpTo x (withEnv handler reads ports outputs s) = withEnv handler reads ports outputs (jumpTo x s) := rfl

@[simp] theorem callTo_withEnv (x : Word) :
    callTo x (withEnv handler reads ports outputs s) = withEnv handler reads ports outputs (callTo x s) := rfl

@[simp] theorem returnFrom_withEnv :
    returnFrom (withEnv handler reads ports outputs s) = withEnv handler reads ports outputs (returnFrom s) := rfl

@[simp] theorem raiseUnimplemented_withEnv (op : Byte) :
    raiseUnimplemented op (withEnv handler reads ports outputs s) =
      withEnv handler reads ports outputs (raiseUnimplemented op s) := rfl

/-- A conditional transfer tests the flags alone. -/
theorem onCond_withEnv (cond : Cond) {f : State → State}
    (hf : f (withEnv handler reads ports outputs s) = withEnv handler reads ports outputs (f s)) :
    onCond cond f (withEnv handler reads ports outputs s) = withEnv handler reads ports outputs (onCond cond f s) := by
  simp only [onCond, withEnv_flags, hf]
  split <;> rfl

/-! The instructions in another environment: only IN and OUT touch it, and only IN takes anything from it (R34, R306). -/

theorem nextState_withEnv {i : Instr} (hin : ∀ port, i ≠ .inPort port) (hout : ∀ port, i ≠ .outPort port) :
    nextState i (withEnv handler reads ports outputs s) = withEnv handler reads ports outputs (nextState i s) := by
  induction i using instr_families with
  | inPort port => exact absurd rfl (hin port)
  | outPort port => exact absurd rfl (hout port)
  | jumpCond a16 cond | callCond a16 cond | returnCond cond =>
    simpa using onCond_withEnv handler reads ports outputs s cond (by simp)
  | undefined i h => simp [nextState_undefined _ h]
  | ldax p => cases p <;> rfl
  | lda | lhld | xchg | daa | cma | cmc | stc | xthl | sphl | ei | di | nop | hlt => rfl
  | _ => simp

/-- OUT presents the same pair to another environment, which keeps its own record of it (R261). -/
theorem nextState_outPort_withEnv (port : Byte) : nextState (.outPort port) (withEnv handler reads ports outputs s) =
    withEnv handler reads ports (outputs ++ [(port, s.a)]) (nextState (.outPort port) s) := rfl

/-- IN takes another environment's byte into A and nothing else (R266). -/
theorem nextState_inPort_withEnv (port : Byte) : nextState (.inPort port) (withEnv handler reads ports outputs s) =
    withEnv (nextHandler handler) (reads + 1) (ports ++ [port]) outputs
      { nextState (.inPort port) s with a := inputByte port (withEnv handler reads ports outputs s) } := rfl

/-- In another environment an instruction answers the same block state but for A, and the same A too unless it is IN. -/
theorem nextState_withEnv_but_a (i : Instr) : ∃ handler' reads' ports' outputs' v,
    nextState i (withEnv handler reads ports outputs s) =
      withEnv handler' reads' ports' outputs' { nextState i s with a := v } ∧
    ((∀ port, i ≠ .inPort port) → v = (nextState i s).a) := by
  by_cases hin : ∃ port, i = .inPort port
  · obtain ⟨port, rfl⟩ := hin
    exact ⟨_, _, _, _, _, nextState_inPort_withEnv handler reads ports outputs s port, fun h => absurd rfl (h port)⟩
  by_cases hout : ∃ port, i = .outPort port
  · obtain ⟨port, rfl⟩ := hout
    exact ⟨_, _, _, _, _, nextState_outPort_withEnv handler reads ports outputs s port, fun _ => rfl⟩
  · exact ⟨_, _, _, _, _, nextState_withEnv handler reads ports outputs s (not_exists.mp hin) (not_exists.mp hout),
      fun _ => rfl⟩

/-- The fetch reads nothing of the environment. -/
theorem fetchInstr_withEnv : fetchInstr (withEnv handler reads ports outputs s) =
    ((fetchInstr s).1, withEnv handler reads ports outputs (fetchInstr s).2) := by
  simp only [fetchInstr, fetchByte, memRead_withEnv, withEnv_pc]
  cases gridCell (memRead s.pc s) <;> rfl

end

/-- The opcode of every IN is 0xDB. -/
theorem fetchInstr_ne_inPort {s : State} (h : memRead s.pc s ≠ 0xDB#8) (port : Byte) :
    (fetchInstr s).1 ≠ .inPort port := by
  intro hin
  rw [← fetchInstr_opcode, hin] at h
  exact h rfl

/-- Settles O54: neither the latches nor the fetch read the environment, and of the instructions only IN does. -/
theorem environmentInfluencesOnlyIn : Obligations.EnvironmentInfluencesOnlyIn := by
  intro s t handler reads ports outputs h
  obtain ⟨hended, rfl⟩ | ⟨hrun, hexec⟩ := step_cases h
  · exact ⟨handler, reads, ports, outputs, t.a, step_ended hended, fun _ => rfl⟩
  · obtain rfl := exec_eq_next_iff.mp hexec
    obtain ⟨handler', reads', ports', outputs', v, hnext, hv⟩ :=
      nextState_withEnv_but_a handler reads ports outputs (fetchInstr s).2 (fetchInstr s).1
    have hstep := step_running (s := withEnv handler reads ports outputs s) hrun
    rw [fetchInstr_withEnv, exec_eq_next, hnext] at hstep
    exact ⟨handler', reads', ports', outputs', v, hstep, fun hop => hv (fetchInstr_ne_inPort hop)⟩

end Sys2Proof.Machine

/-! The launch state (70_reset_and_hazards.md R292 to R296). -/

namespace Sys2Proof.Machine

/-- A load that is not refused changes memory alone (20_memory.md R74). -/
theorem exists_mem_of_loadProgram {bytes : List Byte} {base : Word} {s t : State}
    (h : loadProgram bytes base s = .next t) : ∃ m, t = { s with mem := m } := by
  by_cases hfits : base.toNat + bytes.length ≤ Config.memSize
  · rw [loadProgram_of_fits hfits] at h
    exact ⟨_, (Host.Outcome.next.inj h).symm⟩
  · rw [loadProgram_of_not_fits (Nat.lt_of_not_le hfits)] at h
    cases h

/-- Settles O57: the load changes the memory of the reset state alone; the seeds and the handler are put into it. -/
theorem launchStateFromParameters : Obligations.LaunchStateFromParameters := by
  intro image loadAddr pcInit spInit handler t h
  obtain ⟨m, rfl⟩ := exists_mem_of_loadProgram h
  simp only [launch, h, attachIo, seedSp, seedPc]

end Sys2Proof.Machine
